-- ==== Sys2Proof/Word.lean ====
section
/-! DEFINITION. The word types of the block and the names of its error kinds (R9, R15, R60, R200). -/

namespace Sys2Proof

/-- One byte of `BUF` (R11). -/
abbrev Byte := BitVec 8

/-- The value register's width, `VAL_W` = 64 bits (R6, R15). -/
abbrev Word := BitVec 64

/-- One command word (R60). -/
abbrev CmdWord := BitVec 16

/-- The error kinds of R200, `ok` being "no error was ever latched". Codes 6 and 7 never occur (R14, U16), so
they have no constructor; the numbers are `errCode` in Decode.lean. -/
inductive ErrCode where
  | ok
  | truncated
  | malformed
  | tooManyReferencePictures
  | unknownAspectRatioIDC
  | wrongUnitType
  deriving DecidableEq, Repr, Inhabited

end Sys2Proof
end

