-- ==== Sys2Proof/Config.lean ====
section
/-! DEFINITION. What an implementation fixes (R6, R8), and the free values of the model. -/

namespace Sys2Proof

/-- `MAX_RDB`: the largest `n` of a fixed-width read (R6). -/
def Config.maxRdb : Nat := 64

/-- `MAX_LZ`: the largest legal count of leading zero bits of an Exp-Golomb codeword (R6, D7). -/
def Config.maxLz : Nat := 32

/-- `MAX_REF`: the largest legal `numNegativePics` and `numPositivePics` (R6). -/
def Config.maxRef : Nat := 16

/-- A unit type, the answer of `classify`: the spec fixes no width, and only compares two of them (R8, R127). -/
abbrev UnitType := Nat

/-- The open parameters of R6 that steer the walk, as plain data fixed for the life of the block (R233).
DESIGN CHOICE (log entry 2): they are held in State, so that every statement about every state is a statement
about every choice of them. -/
structure Params where
  /-- `classify`: entry `b` is the unit type of first header byte `b`; a byte past the end of the list has type 0,
  so every function of a byte is some list of 256 entries. -/
  classifyTable : List UnitType
  /-- `SPS_TAG` -/
  spsTag : UnitType
  /-- `lookupSAR`: the first row for an IDC gives its (width, height); an IDC with no row is rejected. -/
  sarTable : List (Byte × Nat × Nat)
  /-- `EXTENDED_SAR` -/
  extendedSar : Byte
  deriving DecidableEq, Repr, Inhabited

/-- The temporaries of PSEQ (R26) and the loop indices that belong to `SEQ` (R17). Not readable by the host. -/
structure Temps where
  hdr : BitVec 16 := 0
  cnt : Word := 0
  deltaIdx : Word := 0
  refIdx : Word := 0
  nd : Word := 0
  used : Bool := false
  useDelta : Bool := false
  pm : Bool := false
  i : Nat := 0
  idx : Word := 0
  j : Nat := 0
  sizeId : Nat := 0
  matrixId : Nat := 0
  k : Nat := 0
  deriving DecidableEq, Repr, Inhabited

/-- FREE VALUE (log entry 4): what the temporaries hold after the `n`-th DSPS. R26 says that their values after a
command are not architectural, U4 that any value will do; nothing constrains this. -/
opaque Config.freeTemps : Nat → Temps

end Sys2Proof
end

