-- ==== Sys2Proof/Syntax.lean ====
section
/-! DEFINITION. The commands of the block, one constructor per row of the opcode table (R61). -/

namespace Sys2Proof

/-- The seven commands (R61). The pseudo-instructions of R68 are other spellings of these. -/
inductive Instr where
  /-- `RDB n`: read `n` bits (R92). -/
  | rdb (n : Nat)
  /-- `RDF`: read one flag (R95). -/
  | rdf
  /-- `RDUE`: read one Exp-Golomb codeword (R111). -/
  | rdue
  /-- `STAT`: read the latch (R96). -/
  | stat
  /-- `SERR c`: record an error in the latch (R97). -/
  | serr (c : ErrCode)
  /-- `INIT`: construct a new cursor over the current buffer (R98). -/
  | init
  /-- `DSPS`: decode one SPS NAL unit (R125). -/
  | dsps
  deriving DecidableEq, Repr

end Sys2Proof
end

