-- ==== Sys2Proof/WellFormed.lean ====
section
/-! DEFINITION. Which command terms some command word encodes (R62, R64). -/

namespace Sys2Proof

/-- `RDB n` needs `1 <= n <= 64` and `SERR c` an error code 1 to 5 (R62, R64). -/
def wellFormed : Instr → Bool
  | .rdb n => decide (1 ≤ n ∧ n ≤ Config.maxRdb)
  | .serr c => decide (c ≠ .ok)
  | .rdf => true
  | .rdue => true
  | .stat => true
  | .init => true
  | .dsps => true

end Sys2Proof
end

