-- ==== Sys2Proof/Decode.lean ====
section
/-! DEFINITION. The command word: its decoder, total on every word (R60 to R64), the encoder, and the numbers
of the error codes (R200). -/

namespace Sys2Proof

/-- Why a word is illegal, in the order R63 checks it: the `z` field, the opcode, the operand. -/
inductive IllegalWord where
  | reservedBits
  | unassignedOpcode
  | badArgument
  deriving DecidableEq, Repr

/-- The 3-bit number of an error kind (R200, D4). -/
def errCode : ErrCode → BitVec 3
  | .ok => 0
  | .truncated => 1
  | .malformed => 2
  | .tooManyReferencePictures => 3
  | .unknownAspectRatioIDC => 4
  | .wrongUnitType => 5

/-- The error kind that `SERR`'s operand `arg` names: codes 1 to 5 only (R62, R64). -/
def serrOperand : Nat → Option ErrCode
  | 1 => some .truncated
  | 2 => some .malformed
  | 3 => some .tooManyReferencePictures
  | 4 => some .unknownAspectRatioIDC
  | 5 => some .wrongUnitType
  | _ => none

/-- `op`, bits 15:12 (R60). -/
def opField (w : CmdWord) : Nat := (w.extractLsb' 12 4).toNat

/-- `z`, bits 11:7 (R60). -/
def zField (w : CmdWord) : Nat := (w.extractLsb' 7 5).toNat

/-- `arg`, bits 6:0, an unsigned number, not scaled (R60, R62). -/
def argField (w : CmdWord) : Nat := (w.extractLsb' 0 7).toNat

/-- A command whose `arg` must be 0 (R63). -/
def withoutArgument (arg : Nat) (i : Instr) : Except IllegalWord Instr :=
  if arg = 0 then .ok i else .error .badArgument

/-- `RDB`'s operand check: `1 <= arg <= 64` (R63). -/
def decodeRdb (arg : Nat) : Except IllegalWord Instr :=
  if 1 ≤ arg ∧ arg ≤ Config.maxRdb then .ok (.rdb arg) else .error .badArgument

/-- `SERR`'s operand check: `1 <= arg <= 5` (R63). -/
def decodeSerr (arg : Nat) : Except IllegalWord Instr :=
  match serrOperand arg with
  | some c => .ok (.serr c)
  | none => .error .badArgument

/-- Decoding a command word (R63); every word it does not accept is illegal (R64). -/
def decode (w : CmdWord) : Except IllegalWord Instr :=
  if zField w ≠ 0 then .error .reservedBits
  else
    match opField w with
    | 0x1 => decodeRdb (argField w)
    | 0x2 => withoutArgument (argField w) .rdf
    | 0x3 => withoutArgument (argField w) .rdue
    | 0x4 => withoutArgument (argField w) .stat
    | 0x5 => decodeSerr (argField w)
    | 0x6 => withoutArgument (argField w) .init
    | 0x8 => withoutArgument (argField w) .dsps
    | _ => .error .unassignedOpcode

/-- The word of a command, as R61's column "word" writes it. -/
def encode : Instr → CmdWord
  | .rdb n => BitVec.ofNat 16 (0x1000 + n)
  | .rdf => 0x2000
  | .rdue => 0x3000
  | .stat => 0x4000
  | .serr c => BitVec.ofNat 16 (0x5000 + (errCode c).toNat)
  | .init => 0x6000
  | .dsps => 0x8000

/-- The command word of a row of the opcode table: its `nbits` bits, every higher bit 0. -/
def tableWord (nbits w : Nat) : CmdWord := BitVec.ofNat 16 (w % 2 ^ nbits)

/-- What the decoder reads from an opcode-table row's bits (the host's question; R60: a command is one word). -/
def decodeTableWord (nbits w : Nat) : Option Instr :=
  match decode (tableWord nbits w) with
  | .ok i => some i
  | .error _ => none

end Sys2Proof
end

