-- ==== Sys2Proof/Machine/Params.lean ====
section
/-! DEFINITION. The parameters' informative defaults (R6, G1 to G3), and the two pure collaborators as functions
of the parameters (R8). -/

namespace Sys2Proof.Machine

/-- G1: the six bits after the top bit of the first header byte. -/
def defaultClassify (b : Nat) : UnitType := b / 2 % 64

/-- G3: the default aspect-ratio table, IDC 1 to 16; every other IDC is rejected. -/
def defaultSarTable : List (Byte × Nat × Nat) :=
  [(1, 1, 1), (2, 12, 11), (3, 10, 11), (4, 16, 11), (5, 40, 33), (6, 24, 11), (7, 20, 11), (8, 32, 11),
   (9, 80, 33), (10, 18, 11), (11, 15, 11), (12, 64, 33), (13, 160, 99), (14, 4, 3), (15, 3, 2), (16, 2, 1)]

/-- The informative defaults G1 (`classify`, `SPS_TAG` = 33), G2 (`EXTENDED_SAR` = 255) and G3. PRESUMED
(log entry 2): the spec leaves the parameters open and marks these as general knowledge. -/
def defaultParams : Params where
  classifyTable := (List.range 256).map defaultClassify
  spsTag := 33
  sarTable := defaultSarTable
  extendedSar := 255

/-- `classify(b)` (R8): a pure function of the first header byte. -/
def classify (p : Params) (b : Byte) : UnitType := p.classifyTable.getD b.toNat 0

/-- The first row for `idc`, if there is one. -/
def findSar (idc : Byte) : List (Byte × Nat × Nat) → Option (Nat × Nat)
  | [] => none
  | row :: rows => if row.1 = idc then some row.2 else findSar idc rows

/-- `lookupSAR(idc)` (R8): (width, height), or `none` where the lookup rejects the IDC. -/
def lookupSar (p : Params) (idc : Byte) : Option (Nat × Nat) := findSar idc p.sarTable

end Sys2Proof.Machine
end

