-- ==== Sys2Proof/Machine/State.lean ====
section
/-! DEFINITION. The state of the block (10_state.md), as plain data, and its reset value (R30). -/

namespace Sys2Proof.Machine

/-- `BUF` as a list of (address, byte) pairs in one canonical form (`Memory.wf`). -/
abbrev Memory := List Host.Cell

/-- What an address that is not listed reads as. DESIGN CHOICE (log entry 6): R30 leaves the bytes after reset
unspecified; none is addressable before a LOAD has written every byte below `LEN`. -/
def unlistedByte : Byte := 0

/-- Addresses rise strictly from `lo` on and no entry holds the byte that an unlisted address reads as. -/
def Memory.risingFrom : Nat → Memory → Bool
  | _, [] => true
  | lo, c :: m => decide (lo ≤ c.1) && decide (c.2 ≠ unlistedByte) && Memory.risingFrom (c.1 + 1) m

/-- The canonical form of memory. -/
def Memory.wf (m : Memory) : Bool := Memory.risingFrom 0 m

/-- The `RPS.*` states of `SEQ`, one per rule of 43_seq_strps.md. DESIGN CHOICE (log entry 16): the spec names the
group only. -/
inductive RpsPhase where
  | predictionFlag | deltaIdx | reference | discardedDelta | dependentCount
  | counts | bound | negativeList | positiveList
  deriving DecidableEq, Repr

/-- The `SLS.*` states of `SEQ` (44_seq_scaling_skip.md; log entry 16). -/
inductive SlsPhase where
  | matrix | coefficients
  deriving DecidableEq, Repr

/-- The `VUI.*` states of `SEQ`, one per rule of 45_seq_vui.md (log entry 16). -/
inductive VuiPhase where
  | aspectRatio | overscan | videoSignal | chromaLocation | threeFlags | displayWindow
  | timing | pocProportional | hrd | restrictionFlag | restrictions
  deriving DecidableEq, Repr

/-- `SEQ`, the control state of PSEQ (R17). Only `idle` and `done` are seen between commands. -/
inductive Seq where
  | idle | done
  | q1 | q2 | q3 | q4 | q5 | q6 | q7 | q8 | q9 | q10 | q11 | q12 | q13 | q14
  | rps (p : RpsPhase)
  | sls (p : SlsPhase)
  | vui (p : VuiPhase)
  deriving DecidableEq, Repr

/-- `ProfileTierLevel`, registers 4 to 9 (R21). -/
structure PtlRecord where
  /-- 4: `REC.ptl_profile_space` (R129) -/
  profileSpace : BitVec 2 := 0
  /-- 5: `REC.ptl_tier_flag` (R129) -/
  tierFlag : Bool := false
  /-- 6: `REC.ptl_profile_idc` (R129) -/
  profileIdc : BitVec 5 := 0
  /-- 7: `REC.ptl_compat_flags` (R129) -/
  compatFlags : BitVec 32 := 0
  /-- 8: `REC.ptl_constraint_flags` (R129) -/
  constraintFlags : BitVec 48 := 0
  /-- 9: `REC.ptl_level_idc` (R129) -/
  levelIdc : BitVec 8 := 0
  deriving DecidableEq, Repr

/-- `ConformanceWindow`, registers 16 to 19 (R22). -/
structure ConfWindow where
  /-- 16: `REC.conf_win_left` (R132) -/
  left : Word := 0
  /-- 17: `REC.conf_win_right` (R132) -/
  right : Word := 0
  /-- 18: `REC.conf_win_top` (R132) -/
  top : Word := 0
  /-- 19: `REC.conf_win_bottom` (R132) -/
  bottom : Word := 0
  deriving DecidableEq, Repr

/-- The scalar registers `REC.*`, 0 to 44 (R20), with the two sub-aggregates of R21 and R22. -/
structure SpsRecord where
  /-- 0: `REC.nal_hdr` (R127) -/
  nalHdr : BitVec 16 := 0
  /-- 1: `REC.vps_id` (R128) -/
  vpsId : BitVec 4 := 0
  /-- 2: `REC.max_sub_layers_minus1` (R128) -/
  maxSubLayersMinus1 : BitVec 3 := 0
  /-- 3: `REC.temporal_id_nesting_flag` (R128) -/
  temporalIdNestingFlag : Bool := false
  /-- 10: `REC.sps_id` (R131) -/
  spsId : Word := 0
  /-- 11: `REC.chroma_format_idc` (R131) -/
  chromaFormatIdc : Word := 0
  /-- 12: `REC.separate_colour_plane_flag` (R131) -/
  separateColourPlaneFlag : Bool := false
  /-- 13: `REC.pic_width` (R132) -/
  picWidth : Word := 0
  /-- 14: `REC.pic_height` (R132) -/
  picHeight : Word := 0
  /-- 15: `REC.conformance_window_flag` (R132) -/
  conformanceWindowFlag : Bool := false
  /-- 20: `REC.bit_depth_luma_minus8` (R133) -/
  bitDepthLumaMinus8 : Word := 0
  /-- 21: `REC.bit_depth_chroma_minus8` (R133) -/
  bitDepthChromaMinus8 : Word := 0
  /-- 22: `REC.log2_max_poc_lsb_minus4` (R133) -/
  log2MaxPocLsbMinus4 : Word := 0
  /-- 23: `REC.sloi_present_flag` (R134) -/
  sloiPresentFlag : Bool := false
  /-- 24: `REC.log2_min_luma_cb_size_minus3` (R136) -/
  log2MinLumaCbSizeMinus3 : Word := 0
  /-- 25: `REC.log2_diff_max_min_luma_cb_size` (R136) -/
  log2DiffMaxMinLumaCbSize : Word := 0
  /-- 26: `REC.log2_min_luma_tb_size_minus2` (R136) -/
  log2MinLumaTbSizeMinus2 : Word := 0
  /-- 27: `REC.log2_diff_max_min_luma_tb_size` (R136) -/
  log2DiffMaxMinLumaTbSize : Word := 0
  /-- 28: `REC.max_transform_hierarchy_depth_inter` (R136) -/
  maxTransformHierarchyDepthInter : Word := 0
  /-- 29: `REC.max_transform_hierarchy_depth_intra` (R136) -/
  maxTransformHierarchyDepthIntra : Word := 0
  /-- 30: `REC.scaling_list_enabled_flag` (R137) -/
  scalingListEnabledFlag : Bool := false
  /-- 31: `REC.scaling_list_data_present_flag` (R137) -/
  scalingListDataPresentFlag : Bool := false
  /-- 32: `REC.amp_enabled_flag` (R138) -/
  ampEnabledFlag : Bool := false
  /-- 33: `REC.sao_enabled_flag` (R138) -/
  saoEnabledFlag : Bool := false
  /-- 34: `REC.pcm_enabled_flag` (R138) -/
  pcmEnabledFlag : Bool := false
  /-- 35: `REC.pcm_bit_depth_luma_minus1` (R138) -/
  pcmBitDepthLumaMinus1 : BitVec 4 := 0
  /-- 36: `REC.pcm_bit_depth_chroma_minus1` (R138) -/
  pcmBitDepthChromaMinus1 : BitVec 4 := 0
  /-- 37: `REC.log2_min_pcm_cb_size_minus3` (R138) -/
  log2MinPcmCbSizeMinus3 : Word := 0
  /-- 38: `REC.log2_diff_max_min_pcm_cb_size` (R138) -/
  log2DiffMaxMinPcmCbSize : Word := 0
  /-- 39: `REC.pcm_loop_filter_disabled_flag` (R138) -/
  pcmLoopFilterDisabledFlag : Bool := false
  /-- 40: `REC.num_short_term_ref_pic_sets` (R139) -/
  numShortTermRefPicSets : Word := 0
  /-- 41: `REC.long_term_ref_pics_present_flag` (R142) -/
  longTermRefPicsPresentFlag : Bool := false
  /-- 42: `REC.temporal_mvp_enabled_flag` (R144) -/
  temporalMvpEnabledFlag : Bool := false
  /-- 43: `REC.strong_intra_smoothing_enabled_flag` (R144) -/
  strongIntraSmoothingEnabledFlag : Bool := false
  /-- 44: `REC.vui_parameters_present_flag` (R144) -/
  vuiParametersPresentFlag : Bool := false
  /-- 4 to 9: `REC.ptl_*` (R21) -/
  ptl : PtlRecord := {}
  /-- 16 to 19: `REC.conf_win_*` (R22) -/
  window : ConfWindow := {}
  deriving DecidableEq, Repr

/-- The registers `VUI.*`, 100 to 130 (R25). -/
structure VuiRecord where
  /-- 100: `VUI.aspect_ratio_info_present_flag` (R181) -/
  aspectRatioInfoPresentFlag : Bool := false
  /-- 101: `VUI.aspect_ratio_idc` (R181) -/
  aspectRatioIdc : BitVec 8 := 0
  /-- 102: `VUI.sar_width` (R181) -/
  sarWidth : BitVec 16 := 0
  /-- 103: `VUI.sar_height` (R181) -/
  sarHeight : BitVec 16 := 0
  /-- 104: `VUI.overscan_info_present_flag` (R182) -/
  overscanInfoPresentFlag : Bool := false
  /-- 105: `VUI.overscan_appropriate_flag` (R182) -/
  overscanAppropriateFlag : Bool := false
  /-- 106: `VUI.video_signal_type_present_flag` (R183) -/
  videoSignalTypePresentFlag : Bool := false
  /-- 107: `VUI.video_format` (R183) -/
  videoFormat : BitVec 3 := 0
  /-- 108: `VUI.video_full_range_flag` (R183) -/
  videoFullRangeFlag : Bool := false
  /-- 109: `VUI.colour_description_present_flag` (R183) -/
  colourDescriptionPresentFlag : Bool := false
  /-- 110: `VUI.colour_primaries` (R183) -/
  colourPrimaries : BitVec 8 := 0
  /-- 111: `VUI.transfer_characteristics` (R183) -/
  transferCharacteristics : BitVec 8 := 0
  /-- 112: `VUI.matrix_coeffs` (R183) -/
  matrixCoeffs : BitVec 8 := 0
  /-- 113: `VUI.chroma_loc_info_present_flag` (R184) -/
  chromaLocInfoPresentFlag : Bool := false
  /-- 114: `VUI.chroma_sample_loc_type_top_field` (R184) -/
  chromaSampleLocTypeTopField : Word := 0
  /-- 115: `VUI.chroma_sample_loc_type_bottom_field` (R184) -/
  chromaSampleLocTypeBottomField : Word := 0
  /-- 116: `VUI.neutral_chroma_indication_flag` (R185) -/
  neutralChromaIndicationFlag : Bool := false
  /-- 117: `VUI.field_seq_flag` (R185) -/
  fieldSeqFlag : Bool := false
  /-- 118: `VUI.frame_field_info_present_flag` (R185) -/
  frameFieldInfoPresentFlag : Bool := false
  /-- 119: `VUI.default_display_window_flag` (R186) -/
  defaultDisplayWindowFlag : Bool := false
  /-- 120: `VUI.def_disp_win_left_offset` (R186) -/
  defDispWinLeftOffset : Word := 0
  /-- 121: `VUI.def_disp_win_right_offset` (R186) -/
  defDispWinRightOffset : Word := 0
  /-- 122: `VUI.def_disp_win_top_offset` (R186) -/
  defDispWinTopOffset : Word := 0
  /-- 123: `VUI.def_disp_win_bottom_offset` (R186) -/
  defDispWinBottomOffset : Word := 0
  /-- 124: `VUI.timing_info_present_flag` (R187) -/
  timingInfoPresentFlag : Bool := false
  /-- 125: `VUI.num_units_in_tick` (R187) -/
  numUnitsInTick : BitVec 32 := 0
  /-- 126: `VUI.time_scale` (R187) -/
  timeScale : BitVec 32 := 0
  /-- 127: `VUI.poc_proportional_to_timing_flag` (R188) -/
  pocProportionalToTimingFlag : Bool := false
  /-- 128: `VUI.num_ticks_poc_diff_one_minus1` (R188) -/
  numTicksPocDiffOneMinus1 : Word := 0
  /-- 129: `VUI.hrd_parameters_present_flag` (R189) -/
  hrdParametersPresentFlag : Bool := false
  /-- 130: `VUI.bitstream_restriction_flag` (R190) -/
  bitstreamRestrictionFlag : Bool := false
  deriving DecidableEq, Repr

/-- The registers `BSR.*`, 131 to 138 (R25). -/
structure BsrRecord where
  /-- 131: `BSR.tiles_fixed_structure_flag` (R191) -/
  tilesFixedStructureFlag : Bool := false
  /-- 132: `BSR.motion_vectors_over_pic_boundaries_flag` (R191) -/
  motionVectorsOverPicBoundariesFlag : Bool := false
  /-- 133: `BSR.restricted_ref_pic_lists_flag` (R191) -/
  restrictedRefPicListsFlag : Bool := false
  /-- 134: `BSR.min_spatial_segmentation_idc` (R191) -/
  minSpatialSegmentationIdc : Word := 0
  /-- 135: `BSR.max_bytes_per_pic_denom` (R191) -/
  maxBytesPerPicDenom : Word := 0
  /-- 136: `BSR.max_bits_per_min_cu_denom` (R191) -/
  maxBitsPerMinCuDenom : Word := 0
  /-- 137: `BSR.log2_max_mv_length_horizontal` (R191) -/
  log2MaxMvLengthHorizontal : Word := 0
  /-- 138: `BSR.log2_max_mv_length_vertical` (R191) -/
  log2MaxMvLengthVertical : Word := 0
  deriving DecidableEq, Repr

/-- One entry of `SLOI`: three Exp-Golomb values in stream order (R23). -/
structure SloiEntry where
  f0 : Word
  f1 : Word
  f2 : Word
  deriving DecidableEq, Repr

/-- One entry of `RPS` (R24), all zero and empty by default (R160). A pair of `s0` or `s1` is
`(delta_poc, used)`, `delta_poc` being the raw Exp-Golomb value plus one (R171). -/
structure RpsEntry where
  interFlag : Bool := false
  numNegativePics : Word := 0
  numPositivePics : Word := 0
  numDeltaPocs : Word := 0
  s0 : List (Word × Bool) := []
  s1 : List (Word × Bool) := []
  deriving DecidableEq, Repr

/-- The fields of an `RPS` entry a host can read (R24). -/
inductive RpsField where
  | interFlag | numNegativePics | numPositivePics | numDeltaPocs
  | s0Count | s0Delta (i : Nat) | s0Used (i : Nat)
  | s1Count | s1Delta (i : Nat) | s1Used (i : Nat)
  deriving DecidableEq, Repr

/-- What the host may read between commands (the column "host may read" of R27; R239). The temporaries are not
among them (R26). -/
inductive Readable where
  | bufByte (address : Nat)
  | len | pos | err | val | result | recValid | seq
  | register (number : Nat)
  | sloiCount | sloi (entry field : Nat)
  | rpsCount | rps (entry : Nat) (field : RpsField)
  | dispWidth | dispHeight
  deriving DecidableEq, Repr

/-- What the host can do to the block (R239). Each is one step. -/
inductive HostAction where
  /-- Give one command word (R60). -/
  | command (w : CmdWord)
  /-- Hand over a buffer (R99). -/
  | load (bytes : List Byte)
  /-- Read one readable item (R27). -/
  | read (r : Readable)
  /-- Reset the block (R230). -/
  | reset
  deriving DecidableEq, Repr

/-- The response to a command (R66): `ILL`, and `ERR` and `VAL` after the command. -/
structure Response where
  ill : Bool
  err : ErrCode
  val : Word
  deriving DecidableEq, Repr

/-- Why the machine stops. No command stops the block (R204); only this host action does. -/
inductive Fault where
  /-- Raised by the host action `read`, safe: the host asks for something that does not exist (a `BUF` byte at an
  address `>= LEN`, R40, R44; a register number that no row of R20 to R25 carries; an entry beyond the end of a
  sequence). Log entry 9. -/
  | noSuchReadable (r : Readable)
  deriving DecidableEq, Repr

/-- Why the machine gives no next state. -/
inductive Refusal where
  /-- Raised by `exec`'s arms of commands without a meaning; safe. No arm raises it. -/
  | notModelled (mnemonic : String)
  /-- Raised by the host action `command`, safe: the word is illegal (R64). R65: nothing changes, and the response
  `r` has `ILL` = 1 and the unchanged `ERR` and `VAL`; a model treats this as a refusal (R65, U1). -/
  | illegalCommand (w : CmdWord) (r : Response)
  /-- Raised by the meanings of `RDB` and `SERR`, safe: the term is not well formed, so no command word encodes it
  (R64) and no step reaches it. Log entry 8. -/
  | illegalOperand (r : Response)
  deriving DecidableEq, Repr

/-- Everything the spec gives the block (10_state.md), and three fields of the model's own at the end. -/
structure State where
  /-- `BUF` (R11) -/
  buf : Memory
  /-- `LEN` (R12) -/
  len : Nat
  /-- `POS` (R13) -/
  pos : Nat
  /-- `ERR` (R14) -/
  err : ErrCode
  /-- `VAL` (R15) -/
  val : Word
  /-- `SEQ` (R17) -/
  seq : Seq
  /-- `RESULT` (R18) -/
  result : ErrCode
  /-- `REC_VALID` (R19) -/
  recValid : Bool
  /-- `REC.*` (R20 to R22) -/
  sps : SpsRecord
  /-- `SLOI` (R23) -/
  sloi : List SloiEntry
  /-- `RPS` (R24) -/
  rps : List RpsEntry
  /-- `VUI.*` (R25) -/
  vui : VuiRecord
  /-- `BSR.*` (R25) -/
  bsr : BsrRecord
  /-- the temporaries of PSEQ (R26) and the loop indices of `SEQ` (R17) -/
  temps : Temps
  /-- the model's own: the open parameters (R6, R8), fixed for the life of the block (R233; log entry 2) -/
  params : Params
  /-- the model's own: what the host will do, oldest first (R238; log entry 1) -/
  inputs : List HostAction
  /-- the model's own: picks the next free value of the temporaries (log entry 5) -/
  freeTick : Nat
  deriving DecidableEq, Repr

/-- The block right after reset (R30, R230): an empty buffer, a clear cursor, an idle sequencer, a zero record. The
temporaries, which R30 leaves unspecified, are 0 (log entry 4); no host action is pending (log entry 1). -/
def State.reset : State where
  buf := []
  len := 0
  pos := 0
  err := .ok
  val := 0
  seq := .idle
  result := .ok
  recValid := false
  sps := {}
  sloi := []
  rps := []
  vui := {}
  bsr := {}
  temps := {}
  params := defaultParams
  inputs := []
  freeTick := 0

end Sys2Proof.Machine
end

