-- ==== Sys2Proof/Machine/Ops.lean ====
section
/-! DEFINITION. The named operations over the buffer and the registers, and what "taking" an error and clearing it
do (R204, R212). -/

namespace Sys2Proof.Machine

/-! ### The buffer -/

/-- `MemRead(a, 1)` (R9): the byte at address `a`. -/
def memRead : Memory → Nat → Byte
  | [], _ => unlistedByte
  | c :: m, a => if c.1 = a then c.2 else memRead m a

/-- The canonical memory that holds `bytes` from address `a` on: the only write of `BUF` is LOAD's (R11, R99). -/
def bufferFrom : Nat → List Byte → Memory
  | _, [] => []
  | a, b :: bytes => if b = unlistedByte then bufferFrom (a + 1) bytes else (a, b) :: bufferFrom (a + 1) bytes

/-! ### Register writes -/

/-- `POS <- p` -/
def setPos (p : Nat) (s : State) : State := { s with pos := p }

/-- `ERR <- e` -/
def setErr (e : ErrCode) (s : State) : State := { s with err := e }

/-- `VAL <- v` -/
def setVal (v : Word) (s : State) : State := { s with val := v }

/-- `BUF[0 .. LEN-1] <- bytes; LEN <- |bytes|` (R99) -/
def setBuffer (bytes : List Byte) (s : State) : State :=
  { s with buf := bufferFrom 0 bytes, len := bytes.length }

/-- `SEQ <- q` -/
def setSeq (q : Seq) (s : State) : State := { s with seq := q }

/-- `RESULT <- e` -/
def setResult (e : ErrCode) (s : State) : State := { s with result := e }

/-- `REC_VALID <- b` -/
def setRecValid (b : Bool) (s : State) : State := { s with recValid := b }

/-- Write `REC.*`. -/
def setSps (r : SpsRecord) (s : State) : State := { s with sps := r }

/-- Write `VUI.*`. -/
def setVui (r : VuiRecord) (s : State) : State := { s with vui := r }

/-- Write `BSR.*`. -/
def setBsr (r : BsrRecord) (s : State) : State := { s with bsr := r }

/-- `SLOI.append(e)` (R9) -/
def pushSloi (e : SloiEntry) (s : State) : State := { s with sloi := s.sloi ++ [e] }

/-- `RPS.append(e)` (R9) -/
def pushRps (e : RpsEntry) (s : State) : State := { s with rps := s.rps ++ [e] }

/-- Write the temporaries (R26). -/
def setTemps (t : Temps) (s : State) : State := { s with temps := t }

/-- `REC.*, VUI.*, BSR.* <- 0; SLOI <- empty; RPS <- empty; temporaries <- 0; RESULT <- 0; REC_VALID <- 0`
(R28, R125). -/
def clearRecord (s : State) : State :=
  { s with
    sps := {}, vui := {}, bsr := {}, sloi := [], rps := [], temps := {}
    result := .ok, recValid := false }

/-- After a DSPS the temporaries hold any value (R26, U4): the next free value (log entry 4). -/
def freeTheTemps (s : State) : State :=
  { s with temps := Config.freeTemps s.freeTick, freeTick := s.freeTick + 1 }

/-! ### Taking an error, and returning from it -/

/-- `latch(e)` (R9): the first error wins (R203). -/
def latch (e : ErrCode) (s : State) : State := if s.err = .ok then setErr e s else s

/-- What latching an error changes (R204): `ERR`, if it was clear, and `VAL <- 0`; nothing else, not `POS` (R93), and
control is not transferred. A failing read and `SERR` (R97) both do exactly this. -/
def takeError (e : ErrCode) (s : State) : State := setVal 0 (latch e s)

/-- The one way out of an error (R212): a new cursor over the buffer as it stands, `POS <- 0; ERR <- 0; VAL <- 0`
(R98). -/
def recreateCursor (s : State) : State := setVal 0 (setErr .ok (setPos 0 s))

/-- A successful read of `k` bits with value `v`: `VAL <- v; POS <- POS + k` (R13). -/
def acceptRead (v : Word) (k : Nat) (s : State) : State := setPos (s.pos + k) (setVal v s)

end Sys2Proof.Machine
end

