-- ==== Sys2Proof/Machine/Operands.lean ====
section
/-! DEFINITION. The operand forms: the bits of the stream and the three field kinds `u(n)`, `f` and `ue` of
R69 to R71. -/

namespace Sys2Proof.Machine

/-- `Bit(p) = BUF[p >> 3][7 - (p & 7)]` (R9, R41). -/
def streamBit (m : Memory) (p : Nat) : Bool := (memRead m (p / 8)).getLsbD (7 - p % 8)

/-- `StreamBits(p, n)` (R9): the `n` stream bits from `p` on, the first one most significant. -/
def streamBits (m : Memory) (p : Nat) : Nat → Nat
  | 0 => 0
  | n + 1 => 2 * streamBits m p n + (streamBit m (p + n)).toNat

/-- `8*LEN`, the number of stream bits. -/
def streamEnd (s : State) : Nat := 8 * s.len

/-- What the scan of an Exp-Golomb code's leading zero bits finds (R111, R113). -/
inductive ZeroRun where
  /-- `lz` zero bits and a one; `next` is the bit address after the one. -/
  | terminated (lz next : Nat)
  /-- The stream ended first. -/
  | ranOut
  /-- A zero bit number `MAX_LZ + 1` was seen. -/
  | tooLong
  deriving DecidableEq, Repr

/-- The loop of R111, one bit at a time from `p`, `lz` zeros seen so far; `spare` is how many more zero bits make
`lz` exceed `MAX_LZ`, so that `spare + lz = MAX_LZ + 1`. The first condition met decides (R113). -/
def scanZeros (m : Memory) (last : Nat) : (spare p lz : Nat) → ZeroRun
  | 0, _, _ => .tooLong
  | spare + 1, p, lz =>
    if last ≤ p then .ranOut
    else if streamBit m p then .terminated lz (p + 1)
    else scanZeros m last spare (p + 1) (lz + 1)

/-- The scan from the cursor. -/
def leadingZeros (s : State) : ZeroRun := scanZeros s.buf (streamEnd s) (Config.maxLz + 1) s.pos 0

/-- `(1 << lz) - 1 + suffix` (R71), the suffix being the `lz` bits from `p` on. -/
def ueValue (m : Memory) (p lz : Nat) : Nat := 2 ^ lz - 1 + streamBits m p lz

/-- The three field kinds of the stream (R69 to R71); each field of the syntax tables R74 to R77 is one. -/
inductive FieldKind where
  | u (n : Nat)
  | f
  | ue
  deriving DecidableEq, Repr

/-- A flag is true when the value read is 1 (R70, R95). -/
def isOne (v : Word) : Bool := decide (v = 1)

end Sys2Proof.Machine
end

