-- ==== Sys2Proof/Machine/Flags.lean ====
section
/-! DEFINITION. The status flag `ERR` (R32), the response (R66), and the value `RESULT` takes where the walk
stops (R210). -/

namespace Sys2Proof.Machine

/-- `ERR != 0`: the latch is set (R32). -/
def failed (s : State) : Bool := decide (s.err ≠ .ok)

/-- Fewer than `n` bits remain from bit address `p` on: `8*LEN - p < n` (R201). -/
def tooFewBits (s : State) (p n : Nat) : Bool := decide (streamEnd s - p < n)

/-- `zext_64(e)`: the number of an error kind, widened (R96, R125, R200). -/
def errWord (e : ErrCode) : Word := (errCode e).setWidth 64

/-- The response of a command that the block accepts, read in the state after it (R66). -/
def response (s : State) : Response where
  ill := false
  err := s.err
  val := s.val

/-- The response to an illegal word (R65): `ILL` = 1, `ERR` and `VAL` unchanged. -/
def illegalResponse (s : State) : Response where
  ill := true
  err := s.err
  val := s.val

/-- `RESULT <- ERR`, at the two checkpoints (R141, R146). -/
def reportLatch (s : State) : State := setResult s.err s

end Sys2Proof.Machine
end

