-- ==== Sys2Proof/Machine/Cursor.lean ====
section
/-! DEFINITION. The bit cursor: RDB, RDF, STAT, SERR and INIT (40_cursor_ops.md). The operations are PSEQ's too
(R100); the meanings of the commands are at the end. -/

namespace Sys2Proof.Machine

/-- The fixed-width read of R92, `1 <= n <= 64`: latch first (R90), then all or nothing (R44, R93). -/
def readBits (n : Nat) (s : State) : State :=
  if failed s then setVal 0 s
  else if tooFewBits s s.pos n then takeError .truncated s
  else acceptRead (BitVec.ofNat 64 (streamBits s.buf s.pos n)) n s

/-- The flag read of R95: exactly `RDB 1`. -/
def readFlag (s : State) : State := readBits 1 s

/-- `STAT` (R96): `VAL <- zext_64(ERR)`. -/
def readStatus (s : State) : State := setVal (errWord s.err) s

/-- `SERR c` (R97). -/
def recordError (c : ErrCode) (s : State) : State := takeError c s

/-- Meaning of `RDB n` (R92). A term that is not well formed is no command (R64). -/
def execRdb (n : Nat) (s : State) : Host.Outcome State Fault Refusal :=
  if wellFormed (.rdb n) then .next (readBits n s) else .refused (.illegalOperand (illegalResponse s))

/-- Meaning of `RDF` (R95). -/
def execRdf (s : State) : Host.Outcome State Fault Refusal := .next (readFlag s)

/-- Meaning of `STAT` (R96). -/
def execStat (s : State) : Host.Outcome State Fault Refusal := .next (readStatus s)

/-- Meaning of `SERR c` (R97). A term that is not well formed is no command (R64). -/
def execSerr (c : ErrCode) (s : State) : Host.Outcome State Fault Refusal :=
  if wellFormed (.serr c) then .next (recordError c s) else .refused (.illegalOperand (illegalResponse s))

/-- Meaning of `INIT` (R98). -/
def execInit (s : State) : Host.Outcome State Fault Refusal := .next (recreateCursor s)

end Sys2Proof.Machine
end

