-- ==== Sys2Proof/Machine/ExpGolomb.lean ====
section
/-! DEFINITION. The Exp-Golomb decoder (41_expgolomb.md), and one read of a field of any kind. -/

namespace Sys2Proof.Machine

/-- The variable-length read of R111: latch first (R90); a failure in the leading zeros or in the suffix consumes
nothing (R114). -/
def readUe (s : State) : State :=
  if failed s then setVal 0 s
  else
    match leadingZeros s with
    | .ranOut => takeError .truncated s
    | .tooLong => takeError .malformed s
    | .terminated lz p =>
      if tooFewBits s p lz then takeError .truncated s
      else setPos (p + lz) (setVal (BitVec.ofNat 64 (ueValue s.buf p lz)) s)

/-- Meaning of `RDUE` (R111). -/
def execRdue (s : State) : Host.Outcome State Fault Refusal := .next (readUe s)

/-- The cursor operation PSEQ issues for a field of each kind (R68, R100). -/
def readField : FieldKind → State → State
  | .u n => readBits n
  | .f => readFlag
  | .ue => readUe

end Sys2Proof.Machine
end

