-- ==== Sys2Proof/Machine/Record.lean ====
section
/-! DEFINITION. How PSEQ stores what it reads (R126), and its loops (R9). -/

namespace Sys2Proof.Machine

/-- `REC.<field> <- ` one read of kind `k`; `put` writes the field. -/
def readSps (k : FieldKind) (put : Word → SpsRecord → SpsRecord) (s : State) : State :=
  let t := readField k s
  setSps (put t.val t.sps) t

/-- `VUI.<field> <- ` one read of kind `k`. -/
def readVui (k : FieldKind) (put : Word → VuiRecord → VuiRecord) (s : State) : State :=
  let t := readField k s
  setVui (put t.val t.vui) t

/-- `BSR.<field> <- ` one read of kind `k`. -/
def readBsr (k : FieldKind) (put : Word → BsrRecord → BsrRecord) (s : State) : State :=
  let t := readField k s
  setBsr (put t.val t.bsr) t

/-- `T_<x> <- ` one read of kind `k` (R26). -/
def readTemp (k : FieldKind) (put : Word → Temps → Temps) (s : State) : State :=
  let t := readField k s
  setTemps (put t.val t.temps) t

/-- A read whose value is dropped: still a full read (R9, R126 (4)). -/
def skipField (k : FieldKind) (s : State) : State := readField k s

/-- Write some of the temporaries. -/
def noteTemps (f : Temps → Temps) (s : State) : State := setTemps (f s.temps) s

/-- `for i in first .. first + count - 1` (R9): no iteration when `count` is 0. -/
def repeatFor {α : Type} (body : Nat → α → α) : (count first : Nat) → α → α
  | 0, _, a => a
  | count + 1, first, a => repeatFor body count (first + 1) (body first a)

end Sys2Proof.Machine
end

