-- ==== Sys2Proof/Machine/ScalingSkip.lean ====
section
/-! DEFINITION. The routine `ScalingListSkip` (44_seq_scaling_skip.md): it moves the cursor and keeps nothing. -/

namespace Sys2Proof.Machine

/-- `CoefNum(sizeId) = min(64, 1 << (4 + 2*sizeId))` (R177). -/
def coefNum (sizeId : Nat) : Nat := min 64 (2 ^ (4 + 2 * sizeId))

/-- Size class 3 has 2 matrices, the others 6 (R175, D23). -/
def matrixCount (sizeId : Nat) : Nat := if sizeId = 3 then 2 else 6

/-- One delta coefficient, read and dropped (R176, R178). -/
def skipCoefficient (k : Nat) (s : State) : State := skipField .ue (noteTemps (fun t => { t with k := k }) s)

/-- The DC coefficient, for size classes beyond index 1 only (R176). -/
def skipDc (sizeId : Nat) (s : State) : State := if sizeId > 1 then skipField .ue s else s

/-- `SkipOneMatrix(sizeId)` (R176). -/
def skipOneMatrix (sizeId matrixId : Nat) (s : State) : State :=
  let t := readTemp .f (fun v r => { r with pm := isOne v })
    (setSeq (.sls .matrix) (noteTemps (fun r => { r with sizeId := sizeId, matrixId := matrixId }) s))
  if t.temps.pm then
    repeatFor skipCoefficient (coefNum sizeId) 0 (skipDc sizeId (setSeq (.sls .coefficients) t))
  else skipField .ue t

/-- The matrices of one size class (R175). -/
def skipSizeClass (sizeId : Nat) (s : State) : State :=
  repeatFor (skipOneMatrix sizeId) (matrixCount sizeId) 0 s

/-- `ScalingListSkip()` (R175): size classes 0 to 3. -/
def scalingListSkip (s : State) : State := repeatFor skipSizeClass 4 0 s

end Sys2Proof.Machine
end

