-- ==== Sys2Proof/Machine/ShortTermRps.lean ====
section
/-! DEFINITION. The routine `ShortTermRPS(idx, num)` (43_seq_strps.md). It reads the cursor and the entries already
in `RPS`, and answers one entry, which the caller appends (R160). -/

namespace Sys2Proof.Machine

/-- `T_deltaIdx` (R162): 1, or in the slice-header context (`idx = num`) one more than a value read. -/
def readDeltaIdx (idx num : Word) (s : State) : State :=
  let t := setSeq (.rps .deltaIdx) (noteTemps (fun r => { r with deltaIdx := 1 }) s)
  if idx = num then readTemp .ue (fun v r => { r with deltaIdx := v + 1 }) t else t

/-- `RPS[k].num_delta_pocs` (R165). In the routine's contract `k < |RPS|` (R173); past the end it reads 0
(log entry 12). -/
def numDeltaPocsAt (s : State) (k : Word) : Word := (s.rps.getD k.toNat {}).numDeltaPocs

/-- One prior delta-POC of the reference entry (R165): `usedByCurrPicFlag`, and `useDeltaFlag` only if that is 0; the
entry's count grows if either is 1. -/
def countDelta (j : Nat) (p : State × RpsEntry) : State × RpsEntry :=
  let t := readTemp .f (fun v r => { r with used := isOne v })
    (noteTemps (fun r => { r with j := j, useDelta := false }) p.1)
  let u := if t.temps.used then t else readTemp .f (fun v r => { r with useDelta := isOne v }) t
  (u, if u.temps.used || u.temps.useDelta then { p.2 with numDeltaPocs := p.2.numDeltaPocs + 1 } else p.2)

/-- The discarded delta, the reference entry's count, and the dependent count (R164, R165). -/
def predictedCount (idx : Word) (s : State) (e : RpsEntry) : State × RpsEntry :=
  let t := skipField .ue (skipField .f (setSeq (.rps .discardedDelta) s))
  let u := noteTemps (fun r => { r with refIdx := idx - r.deltaIdx }) t
  let w := noteTemps (fun r => { r with nd := numDeltaPocsAt u r.refIdx }) u
  repeatFor countDelta w.temps.nd.toNat 0 (setSeq (.rps .dependentCount) w, e)

/-- The inter-prediction branch (R162 to R165); `deltaIdx > idx` latches `Malformed` and returns at once (R163). -/
def predictedEntry (idx num : Word) (s : State) (e : RpsEntry) : State × RpsEntry :=
  let t := setSeq (.rps .reference) (readDeltaIdx idx num s)
  if idx < t.temps.deltaIdx then (recordError .malformed t, e)
  else predictedCount idx t e

/-- One pair of the negative list: the raw value plus one, and a flag (R169, R171). -/
def readS0Pair (i : Nat) (p : State × RpsEntry) : State × RpsEntry :=
  let t := readField .ue (noteTemps (fun r => { r with i := i }) p.1)
  let u := readField .f t
  (u, { p.2 with s0 := p.2.s0 ++ [(t.val + 1, isOne u.val)] })

/-- One pair of the positive list (R170). -/
def readS1Pair (i : Nat) (p : State × RpsEntry) : State × RpsEntry :=
  let t := readField .ue (noteTemps (fun r => { r with i := i }) p.1)
  let u := readField .f t
  (u, { p.2 with s1 := p.2.s1 ++ [(t.val + 1, isOne u.val)] })

/-- The two lists, negative first (R168 to R170). -/
def readPairs (s : State) (e : RpsEntry) : State × RpsEntry :=
  let e' := { e with numDeltaPocs := e.numNegativePics + e.numPositivePics }
  let p := repeatFor readS0Pair e.numNegativePics.toNat 0 (setSeq (.rps .negativeList) s, e')
  repeatFor readS1Pair e.numPositivePics.toNat 0 (setSeq (.rps .positiveList) p.1, p.2)

/-- Either count exceeds 16 (R167). -/
def tooManyPictures (e : RpsEntry) : Bool :=
  decide (Config.maxRef < e.numNegativePics.toNat) || decide (Config.maxRef < e.numPositivePics.toNat)

/-- The explicit branch (R166 to R170); too many pictures latch an error and return at once (R167). -/
def explicitEntry (s : State) (e : RpsEntry) : State × RpsEntry :=
  let t := readField .ue (setSeq (.rps .counts) s)
  let u := setSeq (.rps .bound) (readField .ue t)
  let e' := { e with numNegativePics := t.val, numPositivePics := u.val }
  if tooManyPictures e' then (recordError .tooManyReferencePictures u, e')
  else readPairs u e'

/-- The inter-RPS-prediction flag, read for `idx > 0` only (R161); the flag is `VAL`'s then. -/
def readPredictionFlag (idx : Word) (s : State) : State × RpsEntry :=
  let t := setSeq (.rps .predictionFlag) s
  if idx = 0 then (t, {})
  else
    let u := readField .f t
    (u, { interFlag := isOne u.val })

/-- `ShortTermRPS(idx, num)` (R160). -/
def shortTermRps (idx num : Word) (s : State) : State × RpsEntry :=
  let p := readPredictionFlag idx s
  if p.2.interFlag then predictedEntry idx num p.1 p.2 else explicitEntry p.1 p.2

end Sys2Proof.Machine
end

