-- ==== Sys2Proof/Machine/Vui.lean ====
section
/-! DEFINITION. The routine `VuiParameters` (45_seq_vui.md): one definition per group, in the order of R180. -/

namespace Sys2Proof.Machine

/-- The answer of `lookupSAR` on the IDC read (R181): the low 16 bits of width and height (D24), or
`UnknownAspectRatioIDC` in the latch. -/
def applySarLookup (s : State) : State :=
  match lookupSar s.params s.vui.aspectRatioIdc with
  | some wh => setVui { s.vui with sarWidth := BitVec.ofNat 16 wh.1, sarHeight := BitVec.ofNat 16 wh.2 } s
  | none => recordError .unknownAspectRatioIDC s

/-- Width and height of the sample aspect ratio: explicit, or looked up (R181). -/
def readSar (s : State) : State :=
  if s.vui.aspectRatioIdc = s.params.extendedSar then
    s |> readVui (.u 16) (fun v r => { r with sarWidth := v.setWidth 16 })
      |> readVui (.u 16) (fun v r => { r with sarHeight := v.setWidth 16 })
  else applySarLookup s

/-- Aspect ratio (R181). -/
def vuiAspectRatio (s : State) : State :=
  let t := s |> setSeq (.vui .aspectRatio)
    |> readVui .f (fun v r => { r with aspectRatioInfoPresentFlag := isOne v })
  if t.vui.aspectRatioInfoPresentFlag then
    readSar (readVui (.u 8) (fun v r => { r with aspectRatioIdc := v.setWidth 8 }) t)
  else t

/-- Overscan (R182). -/
def vuiOverscan (s : State) : State :=
  let t := s |> setSeq (.vui .overscan)
    |> readVui .f (fun v r => { r with overscanInfoPresentFlag := isOne v })
  if t.vui.overscanInfoPresentFlag then
    readVui .f (fun v r => { r with overscanAppropriateFlag := isOne v }) t
  else t

/-- The colour-description triple (R183). -/
def vuiColourDescription (s : State) : State :=
  s |> readVui (.u 8) (fun v r => { r with colourPrimaries := v.setWidth 8 })
    |> readVui (.u 8) (fun v r => { r with transferCharacteristics := v.setWidth 8 })
    |> readVui (.u 8) (fun v r => { r with matrixCoeffs := v.setWidth 8 })

/-- Format, full range, and the colour description under its flag (R183). -/
def vuiSignalFields (s : State) : State :=
  let t := s |> readVui (.u 3) (fun v r => { r with videoFormat := v.setWidth 3 })
    |> readVui .f (fun v r => { r with videoFullRangeFlag := isOne v })
    |> readVui .f (fun v r => { r with colourDescriptionPresentFlag := isOne v })
  if t.vui.colourDescriptionPresentFlag then vuiColourDescription t else t

/-- Video signal type (R183). -/
def vuiVideoSignal (s : State) : State :=
  let t := s |> setSeq (.vui .videoSignal)
    |> readVui .f (fun v r => { r with videoSignalTypePresentFlag := isOne v })
  if t.vui.videoSignalTypePresentFlag then vuiSignalFields t else t

/-- Chroma sample location (R184). -/
def vuiChromaLocation (s : State) : State :=
  let t := s |> setSeq (.vui .chromaLocation)
    |> readVui .f (fun v r => { r with chromaLocInfoPresentFlag := isOne v })
  if t.vui.chromaLocInfoPresentFlag then
    t |> readVui .ue (fun v r => { r with chromaSampleLocTypeTopField := v })
      |> readVui .ue (fun v r => { r with chromaSampleLocTypeBottomField := v })
  else t

/-- The neutral-chroma, field and frame flags (R185). -/
def vuiThreeFlags (s : State) : State :=
  s |> setSeq (.vui .threeFlags)
    |> readVui .f (fun v r => { r with neutralChromaIndicationFlag := isOne v })
    |> readVui .f (fun v r => { r with fieldSeqFlag := isOne v })
    |> readVui .f (fun v r => { r with frameFieldInfoPresentFlag := isOne v })

/-- Default display window: left, right, top, bottom (R186). -/
def vuiDisplayWindow (s : State) : State :=
  let t := s |> setSeq (.vui .displayWindow)
    |> readVui .f (fun v r => { r with defaultDisplayWindowFlag := isOne v })
  if t.vui.defaultDisplayWindowFlag then
    t |> readVui .ue (fun v r => { r with defDispWinLeftOffset := v })
      |> readVui .ue (fun v r => { r with defDispWinRightOffset := v })
      |> readVui .ue (fun v r => { r with defDispWinTopOffset := v })
      |> readVui .ue (fun v r => { r with defDispWinBottomOffset := v })
  else t

/-- POC proportional to timing (R188). -/
def vuiPocProportional (s : State) : State :=
  let t := s |> setSeq (.vui .pocProportional)
    |> readVui .f (fun v r => { r with pocProportionalToTimingFlag := isOne v })
  if t.vui.pocProportionalToTimingFlag then
    readVui .ue (fun v r => { r with numTicksPocDiffOneMinus1 := v }) t
  else t

/-- The HRD-parameters-present flag; no bit of the HRD structure is read (R189). -/
def vuiHrdFlag (s : State) : State :=
  s |> setSeq (.vui .hrd) |> readVui .f (fun v r => { r with hrdParametersPresentFlag := isOne v })

/-- Timing info (R187), with R188 and R189 inside its condition. -/
def vuiTiming (s : State) : State :=
  let t := s |> setSeq (.vui .timing)
    |> readVui .f (fun v r => { r with timingInfoPresentFlag := isOne v })
  if t.vui.timingInfoPresentFlag then
    t |> readVui (.u 32) (fun v r => { r with numUnitsInTick := v.setWidth 32 })
      |> readVui (.u 32) (fun v r => { r with timeScale := v.setWidth 32 })
      |> vuiPocProportional |> vuiHrdFlag
  else t

/-- The eight fields of the bitstream restrictions (R191). -/
def vuiRestrictions (s : State) : State :=
  s |> setSeq (.vui .restrictions)
    |> readBsr .f (fun v r => { r with tilesFixedStructureFlag := isOne v })
    |> readBsr .f (fun v r => { r with motionVectorsOverPicBoundariesFlag := isOne v })
    |> readBsr .f (fun v r => { r with restrictedRefPicListsFlag := isOne v })
    |> readBsr .ue (fun v r => { r with minSpatialSegmentationIdc := v })
    |> readBsr .ue (fun v r => { r with maxBytesPerPicDenom := v })
    |> readBsr .ue (fun v r => { r with maxBitsPerMinCuDenom := v })
    |> readBsr .ue (fun v r => { r with log2MaxMvLengthHorizontal := v })
    |> readBsr .ue (fun v r => { r with log2MaxMvLengthVertical := v })

/-- The bitstream-restriction flag and what it announces (R190). -/
def vuiRestrictionFlag (s : State) : State :=
  let t := s |> setSeq (.vui .restrictionFlag)
    |> readVui .f (fun v r => { r with bitstreamRestrictionFlag := isOne v })
  if t.vui.bitstreamRestrictionFlag then vuiRestrictions t else t

/-- The groups before the bitstream restrictions, in order (R181 to R189). -/
def vuiGroups (s : State) : State :=
  s |> vuiAspectRatio |> vuiOverscan |> vuiVideoSignal |> vuiChromaLocation |> vuiThreeFlags
    |> vuiDisplayWindow |> vuiTiming

/-- The HRD exit (R189): inside timing info, the HRD-parameters-present flag was read as 1. -/
def hrdExit (s : State) : Bool := s.vui.timingInfoPresentFlag && s.vui.hrdParametersPresentFlag

/-- `VuiParameters()` (R180): it ends at the HRD exit or after R191. -/
def vuiParameters (s : State) : State :=
  let t := vuiGroups s
  if hrdExit t then t else vuiRestrictionFlag t

end Sys2Proof.Machine
end

