-- ==== Sys2Proof/Machine/Sequencer.lean ====
section
/-! DEFINITION. The parser sequencer: the DSPS command and the steps Q1 to Q14 (42_seq_sps.md). PSEQ never tests
`ERR` after a read: after a failure it goes on, and every further read gives 0 (R126). -/

namespace Sys2Proof.Machine

/-- Where a step leaves the walk: at the next step, or at `stop` (R9, R206). -/
inductive Walk where
  | go (s : State)
  | stop (s : State)

/-- The state either way. -/
def walkState : Walk → State
  | .go s => s
  | .stop s => s

/-- The next step of the fixed order, unless the walk has stopped. -/
def andThen (w : Walk) (f : State → Walk) : Walk :=
  match w with
  | .go s => f s
  | .stop s => .stop s

/-- Step Q1, the NAL header (R127): the whole header is kept (D13). -/
def readNalHeader (s : State) : State :=
  let t := readTemp (.u 16) (fun v r => { r with hdr := v.setWidth 16 }) (setSeq .q1 s)
  setSps { t.sps with nalHdr := t.temps.hdr } t

/-- `classify(T_hdr[15:8]) = SPS_TAG` (R73, R127). -/
def isSpsUnit (s : State) : Bool := decide (classify s.params (s.temps.hdr.extractLsb' 8 8) = s.params.spsTag)

/-- Step Q1, the unit-type check (R127): `WrongUnitType` goes to `RESULT` only, never to the latch (D17). -/
def seqQ1 (s : State) : Walk :=
  let t := readNalHeader s
  if isSpsUnit t then .go (setRecValid true t)
  else .stop (setRecValid false (setResult .wrongUnitType t))

/-- Step Q2 (R128). -/
def seqQ2 (s : State) : State :=
  s |> setSeq .q2
    |> readSps (.u 4) (fun v r => { r with vpsId := v.setWidth 4 })
    |> readSps (.u 3) (fun v r => { r with maxSubLayersMinus1 := v.setWidth 3 })
    |> readSps .f (fun v r => { r with temporalIdNestingFlag := isOne v })

/-- Step Q3, ProfileTierLevel: 96 bits (R129). -/
def readPtl (s : State) : State :=
  s |> setSeq .q3
    |> readSps (.u 2) (fun v r => { r with ptl.profileSpace := v.setWidth 2 })
    |> readSps .f (fun v r => { r with ptl.tierFlag := isOne v })
    |> readSps (.u 5) (fun v r => { r with ptl.profileIdc := v.setWidth 5 })
    |> readSps (.u 32) (fun v r => { r with ptl.compatFlags := v.setWidth 32 })
    |> readSps (.u 48) (fun v r => { r with ptl.constraintFlags := v.setWidth 48 })
    |> readSps (.u 8) (fun v r => { r with ptl.levelIdc := v.setWidth 8 })

/-- Step Q3, with the sub-layer exit: `RESULT` is `OK` there whatever the latch holds (R130, C3). -/
def seqQ3 (s : State) : Walk :=
  let t := readPtl s
  if t.sps.maxSubLayersMinus1 ≠ 0 then .stop (setResult .ok t) else .go t

/-- Step Q4 (R131): the plane flag only for chroma format exactly 3. -/
def seqQ4 (s : State) : State :=
  let t := s |> setSeq .q4
    |> readSps .ue (fun v r => { r with spsId := v })
    |> readSps .ue (fun v r => { r with chromaFormatIdc := v })
  if t.sps.chromaFormatIdc = 3 then
    readSps .f (fun v r => { r with separateColourPlaneFlag := isOne v }) t
  else t

/-- The four crop offsets: left, right, top, bottom (R132, G4; log entry 15). -/
def readConfWindow (s : State) : State :=
  s |> readSps .ue (fun v r => { r with window.left := v })
    |> readSps .ue (fun v r => { r with window.right := v })
    |> readSps .ue (fun v r => { r with window.top := v })
    |> readSps .ue (fun v r => { r with window.bottom := v })

/-- Step Q5 (R132). -/
def seqQ5 (s : State) : State :=
  let t := s |> setSeq .q5
    |> readSps .ue (fun v r => { r with picWidth := v })
    |> readSps .ue (fun v r => { r with picHeight := v })
    |> readSps .f (fun v r => { r with conformanceWindowFlag := isOne v })
  if t.sps.conformanceWindowFlag then readConfWindow t else t

/-- Step Q6 (R133). -/
def seqQ6 (s : State) : State :=
  s |> setSeq .q6
    |> readSps .ue (fun v r => { r with bitDepthLumaMinus8 := v })
    |> readSps .ue (fun v r => { r with bitDepthChromaMinus8 := v })
    |> readSps .ue (fun v r => { r with log2MaxPocLsbMinus4 := v })

/-- One SubLayerOrderingInfo (R134). -/
def readSloiEntry (i : Nat) (s : State) : State :=
  let t := readField .ue (noteTemps (fun r => { r with i := i }) s)
  let u := readField .ue t
  let w := readField .ue u
  pushSloi { f0 := t.val, f1 := u.val, f2 := w.val } w

/-- The first index of step Q7's loop (R134). -/
def firstSubLayer (r : SpsRecord) : Nat := if r.sloiPresentFlag then 0 else r.maxSubLayersMinus1.toNat

/-- Step Q7 (R134): from the first index to `maxSubLayersMinus1`, both included. -/
def seqQ7 (s : State) : State :=
  let t := s |> setSeq .q7 |> readSps .f (fun v r => { r with sloiPresentFlag := isOne v })
  repeatFor readSloiEntry (t.sps.maxSubLayersMinus1.toNat + 1 - firstSubLayer t.sps) (firstSubLayer t.sps) t

/-- Step Q8 (R136). -/
def seqQ8 (s : State) : State :=
  s |> setSeq .q8
    |> readSps .ue (fun v r => { r with log2MinLumaCbSizeMinus3 := v })
    |> readSps .ue (fun v r => { r with log2DiffMaxMinLumaCbSize := v })
    |> readSps .ue (fun v r => { r with log2MinLumaTbSizeMinus2 := v })
    |> readSps .ue (fun v r => { r with log2DiffMaxMinLumaTbSize := v })
    |> readSps .ue (fun v r => { r with maxTransformHierarchyDepthInter := v })
    |> readSps .ue (fun v r => { r with maxTransformHierarchyDepthIntra := v })

/-- Step Q9, the data-present flag and the skip routine (R137). -/
def readScalingData (s : State) : State :=
  let t := readSps .f (fun v r => { r with scalingListDataPresentFlag := isOne v }) s
  if t.sps.scalingListDataPresentFlag then setSeq .q9 (scalingListSkip t) else t

/-- Step Q9 (R137). -/
def seqQ9 (s : State) : State :=
  let t := s |> setSeq .q9 |> readSps .f (fun v r => { r with scalingListEnabledFlag := isOne v })
  if t.sps.scalingListEnabledFlag then readScalingData t else t

/-- The PCM fields (R138). -/
def readPcm (s : State) : State :=
  s |> readSps (.u 4) (fun v r => { r with pcmBitDepthLumaMinus1 := v.setWidth 4 })
    |> readSps (.u 4) (fun v r => { r with pcmBitDepthChromaMinus1 := v.setWidth 4 })
    |> readSps .ue (fun v r => { r with log2MinPcmCbSizeMinus3 := v })
    |> readSps .ue (fun v r => { r with log2DiffMaxMinPcmCbSize := v })
    |> readSps .f (fun v r => { r with pcmLoopFilterDisabledFlag := isOne v })

/-- Step Q10 (R138). -/
def seqQ10 (s : State) : State :=
  let t := s |> setSeq .q10
    |> readSps .f (fun v r => { r with ampEnabledFlag := isOne v })
    |> readSps .f (fun v r => { r with saoEnabledFlag := isOne v })
    |> readSps .f (fun v r => { r with pcmEnabledFlag := isOne v })
  if t.sps.pcmEnabledFlag then readPcm t else t

/-- One entry of step Q11: decoded, then appended, before the checkpoint (R140, D18). -/
def appendRpsEntry (idx : Word) (s : State) : State :=
  let p := shortTermRps idx s.sps.numShortTermRefPicSets (noteTemps (fun r => { r with idx := idx }) s)
  setSeq .q11 (pushRps p.2 p.1)

/-- Step Q11's loop (R140) with its checkpoint after each entry (R141). -/
def rpsLoop : (count : Nat) → (idx : Word) → State → Walk
  | 0, _, s => .go s
  | count + 1, idx, s =>
    let t := appendRpsEntry idx s
    if failed t then .stop (reportLatch t) else rpsLoop count (idx + 1) t

/-- Step Q11 (R139 to R141). -/
def seqQ11 (s : State) : Walk :=
  let t := s |> setSeq .q11 |> readSps .ue (fun v r => { r with numShortTermRefPicSets := v })
  rpsLoop t.sps.numShortTermRefPicSets.toNat 0 t

/-- The width of the long-term skip, as a mathematical number (R142). -/
def longTermWidth (r : SpsRecord) : Nat := r.log2MaxPocLsbMinus4.toNat + 4

/-- One long-term entry (R142): a read of `n` bits, or above 64 the guard of R143, then one flag. -/
def longTermEntry (i : Nat) (s : State) : State :=
  let t := noteTemps (fun r => { r with i := i }) s
  let u := if longTermWidth t.sps ≤ Config.maxRdb then skipField (.u (longTermWidth t.sps)) t
    else recordError .malformed t
  skipField .f u

/-- R142's loop as the rule writes it. -/
def longTermLoop (count : Nat) (s : State) : State := repeatFor longTermEntry count 0 s

/-- R142's loop in the closed form its corner case allows: once the latch is set the remaining iterations only write
`VAL <- 0` and the loop index, so they are left out (log entry 11). That the two are one
function is the obligation `LongTermClosedForm`. -/
def longTermSkip : (count first : Nat) → State → State
  | 0, _, s => s
  | count + 1, i, s =>
    if failed s then setVal 0 (noteTemps (fun r => { r with i := i + count }) s)
    else longTermSkip count (i + 1) (longTermEntry i s)

/-- The count, which is not retained in the record (D19), and the entries (R142). -/
def readLongTermEntries (s : State) : State :=
  let t := readTemp .ue (fun v r => { r with cnt := v }) s
  longTermSkip t.temps.cnt.toNat 0 t

/-- Step Q12 (R142). -/
def seqQ12 (s : State) : State :=
  let t := s |> setSeq .q12 |> readSps .f (fun v r => { r with longTermRefPicsPresentFlag := isOne v })
  if t.sps.longTermRefPicsPresentFlag then readLongTermEntries t else t

/-- Step Q13 (R144, R145). -/
def seqQ13 (s : State) : State :=
  let t := s |> setSeq .q13
    |> readSps .f (fun v r => { r with temporalMvpEnabledFlag := isOne v })
    |> readSps .f (fun v r => { r with strongIntraSmoothingEnabledFlag := isOne v })
    |> readSps .f (fun v r => { r with vuiParametersPresentFlag := isOne v })
  if t.sps.vuiParametersPresentFlag then setSeq .q13 (vuiParameters t) else t

/-- Step Q14, the final return (R146). -/
def seqQ14 (s : State) : State := reportLatch (setSeq .q14 s)

/-- Steps Q4 to Q10, which never stop the walk. -/
def seqQ4toQ10 (s : State) : State :=
  s |> seqQ4 |> seqQ5 |> seqQ6 |> seqQ7 |> seqQ8 |> seqQ9 |> seqQ10

/-- Steps Q12 to Q14. -/
def seqQ12toQ14 (s : State) : State := s |> seqQ12 |> seqQ13 |> seqQ14

/-- Steps Q1 to Q14 in order, until a step says stop (R125, R206). -/
def walkSps (s : State) : Walk :=
  andThen (seqQ1 s) fun a =>
  andThen (seqQ3 (seqQ2 a)) fun b =>
  andThen (seqQ11 (seqQ4toQ10 b)) fun c =>
  .stop (seqQ12toQ14 c)

/-- The start of a DSPS (R125): a new cursor and a clear record. -/
def startDsps (s : State) : State := setSeq .q1 (clearRecord (recreateCursor s))

/-- The end of a DSPS (R125): `SEQ <- DONE; VAL <- zext_64(ERR)`; the temporaries are free from here on (R26). -/
def finishDsps (s : State) : State := freeTheTemps (setVal (errWord s.err) (setSeq .done s))

/-- DSPS as one indivisible step (R91). -/
def decodeSps (s : State) : State := finishDsps (walkState (walkSps (startDsps s)))

/-- Meaning of `DSPS` (R125). -/
def execDsps (s : State) : Host.Outcome State Fault Refusal := .next (decodeSps s)

end Sys2Proof.Machine
end

