-- ==== Sys2Proof/Machine/Dispatch.lean ====
section
/-! DEFINITION. One arm per command: each calls its meaning. -/

namespace Sys2Proof.Machine

def exec (i : Instr) (s : State) : Host.Outcome State Fault Refusal :=
  match i with
  | .rdb n => Sys2Proof.Machine.execRdb n s
  | .rdf => Sys2Proof.Machine.execRdf s
  | .rdue => Sys2Proof.Machine.execRdue s
  | .stat => Sys2Proof.Machine.execStat s
  | .serr c => Sys2Proof.Machine.execSerr c s
  | .init => Sys2Proof.Machine.execInit s
  | .dsps => Sys2Proof.Machine.execDsps s

end Sys2Proof.Machine
end

