-- ==== Sys2Proof/Machine/Geometry.lean ====
section
/-! DEFINITION. GEOM (46_geometry.md): two combinational outputs of the record, no storage (R29). -/

namespace Sys2Proof.Machine

/-- `(subW, subH)` (R195); the comparison is on the full register. -/
def subsampling (idc : Word) : Word × Word :=
  if idc = 1 then (2, 2) else if idc = 2 then (2, 1) else (1, 1)

/-- `GEOM.disp_width`, modulo 2^64 (R196, R197). -/
def geomDispWidth (s : State) : Word :=
  s.sps.picWidth - (s.sps.window.left + s.sps.window.right) * (subsampling s.sps.chromaFormatIdc).1

/-- `GEOM.disp_height`, modulo 2^64 (R196, R197). -/
def geomDispHeight (s : State) : Word :=
  s.sps.picHeight - (s.sps.window.top + s.sps.window.bottom) * (subsampling s.sps.chromaFormatIdc).2

end Sys2Proof.Machine
end

