-- ==== Sys2Proof/Machine/HostRead.lean ====
section
/-! DEFINITION. What a host reads between commands (R27, R239): a read changes nothing. -/

namespace Sys2Proof.Machine

/-- The value of a read: a number, or for `SEQ`, whose states the spec does not number, the state itself. -/
inductive HostValue where
  | number (n : Nat)
  | control (q : Seq)
  deriving DecidableEq, Repr

/-- The record register of a reference number (R20 to R25), as an unsigned number. -/
def registerValue (s : State) : Nat → Option Nat
  | 0 => some s.sps.nalHdr.toNat
  | 1 => some s.sps.vpsId.toNat
  | 2 => some s.sps.maxSubLayersMinus1.toNat
  | 3 => some s.sps.temporalIdNestingFlag.toNat
  | 4 => some s.sps.ptl.profileSpace.toNat
  | 5 => some s.sps.ptl.tierFlag.toNat
  | 6 => some s.sps.ptl.profileIdc.toNat
  | 7 => some s.sps.ptl.compatFlags.toNat
  | 8 => some s.sps.ptl.constraintFlags.toNat
  | 9 => some s.sps.ptl.levelIdc.toNat
  | 10 => some s.sps.spsId.toNat
  | 11 => some s.sps.chromaFormatIdc.toNat
  | 12 => some s.sps.separateColourPlaneFlag.toNat
  | 13 => some s.sps.picWidth.toNat
  | 14 => some s.sps.picHeight.toNat
  | 15 => some s.sps.conformanceWindowFlag.toNat
  | 16 => some s.sps.window.left.toNat
  | 17 => some s.sps.window.right.toNat
  | 18 => some s.sps.window.top.toNat
  | 19 => some s.sps.window.bottom.toNat
  | 20 => some s.sps.bitDepthLumaMinus8.toNat
  | 21 => some s.sps.bitDepthChromaMinus8.toNat
  | 22 => some s.sps.log2MaxPocLsbMinus4.toNat
  | 23 => some s.sps.sloiPresentFlag.toNat
  | 24 => some s.sps.log2MinLumaCbSizeMinus3.toNat
  | 25 => some s.sps.log2DiffMaxMinLumaCbSize.toNat
  | 26 => some s.sps.log2MinLumaTbSizeMinus2.toNat
  | 27 => some s.sps.log2DiffMaxMinLumaTbSize.toNat
  | 28 => some s.sps.maxTransformHierarchyDepthInter.toNat
  | 29 => some s.sps.maxTransformHierarchyDepthIntra.toNat
  | 30 => some s.sps.scalingListEnabledFlag.toNat
  | 31 => some s.sps.scalingListDataPresentFlag.toNat
  | 32 => some s.sps.ampEnabledFlag.toNat
  | 33 => some s.sps.saoEnabledFlag.toNat
  | 34 => some s.sps.pcmEnabledFlag.toNat
  | 35 => some s.sps.pcmBitDepthLumaMinus1.toNat
  | 36 => some s.sps.pcmBitDepthChromaMinus1.toNat
  | 37 => some s.sps.log2MinPcmCbSizeMinus3.toNat
  | 38 => some s.sps.log2DiffMaxMinPcmCbSize.toNat
  | 39 => some s.sps.pcmLoopFilterDisabledFlag.toNat
  | 40 => some s.sps.numShortTermRefPicSets.toNat
  | 41 => some s.sps.longTermRefPicsPresentFlag.toNat
  | 42 => some s.sps.temporalMvpEnabledFlag.toNat
  | 43 => some s.sps.strongIntraSmoothingEnabledFlag.toNat
  | 44 => some s.sps.vuiParametersPresentFlag.toNat
  | 100 => some s.vui.aspectRatioInfoPresentFlag.toNat
  | 101 => some s.vui.aspectRatioIdc.toNat
  | 102 => some s.vui.sarWidth.toNat
  | 103 => some s.vui.sarHeight.toNat
  | 104 => some s.vui.overscanInfoPresentFlag.toNat
  | 105 => some s.vui.overscanAppropriateFlag.toNat
  | 106 => some s.vui.videoSignalTypePresentFlag.toNat
  | 107 => some s.vui.videoFormat.toNat
  | 108 => some s.vui.videoFullRangeFlag.toNat
  | 109 => some s.vui.colourDescriptionPresentFlag.toNat
  | 110 => some s.vui.colourPrimaries.toNat
  | 111 => some s.vui.transferCharacteristics.toNat
  | 112 => some s.vui.matrixCoeffs.toNat
  | 113 => some s.vui.chromaLocInfoPresentFlag.toNat
  | 114 => some s.vui.chromaSampleLocTypeTopField.toNat
  | 115 => some s.vui.chromaSampleLocTypeBottomField.toNat
  | 116 => some s.vui.neutralChromaIndicationFlag.toNat
  | 117 => some s.vui.fieldSeqFlag.toNat
  | 118 => some s.vui.frameFieldInfoPresentFlag.toNat
  | 119 => some s.vui.defaultDisplayWindowFlag.toNat
  | 120 => some s.vui.defDispWinLeftOffset.toNat
  | 121 => some s.vui.defDispWinRightOffset.toNat
  | 122 => some s.vui.defDispWinTopOffset.toNat
  | 123 => some s.vui.defDispWinBottomOffset.toNat
  | 124 => some s.vui.timingInfoPresentFlag.toNat
  | 125 => some s.vui.numUnitsInTick.toNat
  | 126 => some s.vui.timeScale.toNat
  | 127 => some s.vui.pocProportionalToTimingFlag.toNat
  | 128 => some s.vui.numTicksPocDiffOneMinus1.toNat
  | 129 => some s.vui.hrdParametersPresentFlag.toNat
  | 130 => some s.vui.bitstreamRestrictionFlag.toNat
  | 131 => some s.bsr.tilesFixedStructureFlag.toNat
  | 132 => some s.bsr.motionVectorsOverPicBoundariesFlag.toNat
  | 133 => some s.bsr.restrictedRefPicListsFlag.toNat
  | 134 => some s.bsr.minSpatialSegmentationIdc.toNat
  | 135 => some s.bsr.maxBytesPerPicDenom.toNat
  | 136 => some s.bsr.maxBitsPerMinCuDenom.toNat
  | 137 => some s.bsr.log2MaxMvLengthHorizontal.toNat
  | 138 => some s.bsr.log2MaxMvLengthVertical.toNat
  | _ => none

/-- `SLOI[k].f0`, `.f1`, `.f2` (R23). -/
def sloiValue (e : SloiEntry) : Nat → Option Nat
  | 0 => some e.f0.toNat
  | 1 => some e.f1.toNat
  | 2 => some e.f2.toNat
  | _ => none

/-- A field of an `RPS` entry (R24). -/
def rpsValue (e : RpsEntry) : RpsField → Option Nat
  | .interFlag => some e.interFlag.toNat
  | .numNegativePics => some e.numNegativePics.toNat
  | .numPositivePics => some e.numPositivePics.toNat
  | .numDeltaPocs => some e.numDeltaPocs.toNat
  | .s0Count => some e.s0.length
  | .s0Delta i => e.s0[i]?.map (fun d => d.1.toNat)
  | .s0Used i => e.s0[i]?.map (fun d => d.2.toNat)
  | .s1Count => some e.s1.length
  | .s1Delta i => e.s1[i]?.map (fun d => d.1.toNat)
  | .s1Used i => e.s1[i]?.map (fun d => d.2.toNat)

/-- A `BUF` byte, at an address below `LEN` only (R40, R44). -/
def bufValue (s : State) (a : Nat) : Option Nat := if a < s.len then some (memRead s.buf a).toNat else none

/-- What the host gets back (R239): `none` for something that does not exist. -/
def hostRead (s : State) : Readable → Option HostValue
  | .bufByte a => (bufValue s a).map .number
  | .len => some (.number s.len)
  | .pos => some (.number s.pos)
  | .err => some (.number (errCode s.err).toNat)
  | .val => some (.number s.val.toNat)
  | .result => some (.number (errCode s.result).toNat)
  | .recValid => some (.number s.recValid.toNat)
  | .seq => some (.control s.seq)
  | .register n => (registerValue s n).map .number
  | .sloiCount => some (.number s.sloi.length)
  | .sloi k f => (s.sloi[k]?.bind (sloiValue · f)).map .number
  | .rpsCount => some (.number s.rps.length)
  | .rps k f => (s.rps[k]?.bind (rpsValue · f)).map .number
  | .dispWidth => some (.number (geomDispWidth s).toNat)
  | .dispHeight => some (.number (geomDispHeight s).toNat)

end Sys2Proof.Machine
end

