-- ==== Sys2Proof/Machine/HostActions.lean ====
section
/-! DEFINITION. What the host does to the block, one action a step (70_reset_and_hazards.md R239), and taking the
next action from the pending ones. -/

namespace Sys2Proof.Machine

/-- LOAD (R99): new bytes and a new cursor; the record, `RESULT`, `REC_VALID` and `SEQ` stay. -/
def loadBuffer (bytes : List Byte) (s : State) : State := recreateCursor (setBuffer bytes s)

/-- Reset (R230): every piece of the spec's state to its value of R30. The wiring, the host's further actions and
the free-value counter are no state of the block's and stay (log entry 17). -/
def hostReset (s : State) : State :=
  { State.reset with params := s.params, inputs := s.inputs, freeTick := s.freeTick }

/-- One command word: decoded and executed, or illegal, which changes nothing and answers `ILL` = 1 (R65). -/
def runCommand (w : CmdWord) (s : State) : Host.Outcome State Fault Refusal :=
  match decode w with
  | .ok i => exec i s
  | .error _ => .refused (.illegalCommand w (illegalResponse s))

/-- A host read changes nothing (R239); what does not exist cannot be read (log entry 9). -/
def runRead (r : Readable) (s : State) : Host.Outcome State Fault Refusal :=
  match hostRead s r with
  | some _ => .next s
  | none => .fault (.noSuchReadable r)

/-- One host action (R239). -/
def runAction (a : HostAction) (s : State) : Host.Outcome State Fault Refusal :=
  match a with
  | .command w => runCommand w s
  | .load bytes => .next (loadBuffer bytes s)
  | .read r => runRead r s
  | .reset => .next (hostReset s)

/-- Take the host's next action. With none pending the block does nothing (R30, R231). -/
def takeAction (s : State) : Host.Outcome State Fault Refusal :=
  match s.inputs with
  | [] => .next s
  | a :: rest => runAction a { s with inputs := rest }

/-- Put a host action in front of the pending ones. -/
def giveFirst (a : HostAction) (s : State) : State := { s with inputs := a :: s.inputs }

end Sys2Proof.Machine
end

