-- ==== Sys2Proof/Machine/Step.lean ====
section
/-! DEFINITION. One step: the block takes the host's next action (R91, R238). -/

namespace Sys2Proof.Machine

/-- One step of the block. -/
def step (s : State) : Host.Outcome State Fault Refusal := takeAction s

/-- `s` with the command word of an opcode-table row as the host's next action, so that the next step runs it
(log entry 1). -/
def State.withFetchWord (s : State) (nbits w : Nat) : State := giveFirst (.command (tableWord nbits w)) s

end Sys2Proof.Machine
end

