-- ==== Sys2Proof/Safety.lean ====
section
/-! DEFINITION. What every state between two host actions is like, and what the stream ahead of the cursor holds, in
the terms the claims use. -/

namespace Sys2Proof.Machine

/-- R16: the cursor never leaves the stream. -/
def CursorInside (s : State) : Prop := s.pos ≤ streamEnd s

/-- `BUF` is in canonical form and lists nothing at or above `LEN` (R11, R40). -/
def BufferInside (s : State) : Prop := s.buf.wf = true ∧ ∀ c ∈ s.buf, c.1 < s.len

/-- Between commands only `IDLE` and `DONE` are seen (R17, R27). -/
def Quiescent (s : State) : Prop := s.seq = .idle ∨ s.seq = .done

/-- Both lists are as long as the counts say (R168 to R170), and a predicted entry (R165) or one with too many
pictures (R167) has none. -/
def EntryShape (e : RpsEntry) : Prop :=
  if e.interFlag then e.numNegativePics = 0 ∧ e.numPositivePics = 0 ∧ e.s0 = [] ∧ e.s1 = []
  else if 16 < e.numNegativePics.toNat ∨ 16 < e.numPositivePics.toNat then
    e.numDeltaPocs = 0 ∧ e.s0 = [] ∧ e.s1 = []
  else
    e.numDeltaPocs.toNat = e.numNegativePics.toNat + e.numPositivePics.toNat ∧
      e.s0.length = e.numNegativePics.toNat ∧ e.s1.length = e.numPositivePics.toNat

/-- An entry of `RPS`: its shape, and `NumDeltaPocs` at most 32 (R24, R168). -/
def EntryOk (e : RpsEntry) : Prop := EntryShape e ∧ e.numDeltaPocs.toNat ≤ 32

/-- The walk reached the steps after the sub-layer exit (R130, R135). -/
def PassedQ3 (s : State) : Prop := s.recValid = true ∧ s.sps.maxSubLayersMinus1 = 0

/-- The record is one that a DSPS leaves, or the cleared one (R28, R130, R135, R189, R192). -/
structure RecordOk (s : State) : Prop where
  entries : ∀ e ∈ s.rps, EntryOk e
  announced : s.rps.length ≤ s.sps.numShortTermRefPicSets.toNat
  oneSloi : PassedQ3 s → s.sloi.length = 1
  stopped : ¬ PassedQ3 s → s.sloi = [] ∧ s.rps = [] ∧ s.vui = {} ∧ s.bsr = {}
  noVui : s.sps.vuiParametersPresentFlag = false → s.vui = {}
  noBsr : s.vui.bitstreamRestrictionFlag = false → s.bsr = {}

/-- The operands of GEOM are Exp-Golomb values, hence below 2^33 (R112, R197). -/
structure GeomOperandsSmall (s : State) : Prop where
  width : s.sps.picWidth.toNat < 2 ^ 33
  height : s.sps.picHeight.toNat < 2 ^ 33
  left : s.sps.window.left.toNat < 2 ^ 33
  right : s.sps.window.right.toNat < 2 ^ 33
  top : s.sps.window.top.toNat < 2 ^ 33
  bottom : s.sps.window.bottom.toNat < 2 ^ 33

/-- The invariant of the block between host actions. -/
structure Inv (s : State) : Prop where
  cursor : CursorInside s
  buffer : BufferInside s
  quiescent : Quiescent s
  record : RecordOk s
  geom : GeomOperandsSmall s

/-! ### What the stream holds: the fields ahead of the cursor, as the syntax tables write them (R69 to R71) -/

/-- A run of fields, each a kind and a value. -/
abbrev Fields := List (FieldKind × Nat)

/-- How many bits a field takes: for `ue` the length of R116. -/
def fieldWidth : FieldKind → Nat → Nat
  | .u n, _ => n
  | .f, _ => 1
  | .ue, v => 2 * Nat.log2 (v + 1) + 1

/-- The bits from `p` on are a field of kind `k` with value `v`: for `ue` the canonical codeword of `v`, which read as
one number is `v + 1` (R115). -/
def fieldAt (m : Memory) (p : Nat) (k : FieldKind) (v : Nat) : Bool :=
  match k with
  | .u n => decide (streamBits m p n = v)
  | .f => decide ((streamBit m p).toNat = v)
  | .ue => decide (v ≤ 2 ^ 33 - 2 ∧ streamBits m p (fieldWidth .ue v) = v + 1)

/-- How many bits a run of fields takes. -/
def fieldsWidth : Fields → Nat
  | [] => 0
  | f :: fs => fieldWidth f.1 f.2 + fieldsWidth fs

/-- The bits from `p` on are the fields `fs`, one after the other. -/
def fieldsAt (m : Memory) : Nat → Fields → Bool
  | _, [] => true
  | p, f :: fs => fieldAt m p f.1 f.2 && fieldsAt m (p + fieldWidth f.1 f.2) fs

/-- The latch is clear, and the fields `fs` stand at the cursor, wholly inside the buffer. -/
def StreamHolds (s : State) (fs : Fields) : Prop :=
  s.err = .ok ∧ s.pos + fieldsWidth fs ≤ streamEnd s ∧ fieldsAt s.buf s.pos fs = true

/-- From `s` to `t` the fields `fs` were read, no error was latched, and the rest of the state is that of `u`; what
`VAL`, `SEQ` and the temporaries are is left open. -/
def ReadsInto (fs : Fields) (s t u : State) : Prop :=
  t = { u with pos := s.pos + fieldsWidth fs, val := t.val, seq := t.seq, temps := t.temps }

/-- The pairs of one list of an explicit entry (R169, R170): a value, and a flag. -/
def pairFields (ds : List (Nat × Bool)) : Fields := ds.flatMap fun d => [(.ue, d.1), (.f, d.2.toNat)]

/-- What such pairs are stored as (R171). -/
def storedPairs (ds : List (Nat × Bool)) : List (Word × Bool) := ds.map fun d => (BitVec.ofNat 64 (d.1 + 1), d.2)

/-- The flags of one prior delta-POC (R165): `none` is a picture in use, whose `useDeltaFlag` is not in the stream;
`some b` is one that is not, with `useDeltaFlag` `b`. -/
def priorFields (ps : List (Option Bool)) : Fields :=
  ps.flatMap fun o => match o with
    | none => [(.f, 1)]
    | some b => [(.f, 0), (.f, b.toNat)]

/-- How many of them count (R165). -/
def priorCount (ps : List (Option Bool)) : Nat := (ps.filter fun o => decide (o ≠ some false)).length

/-- The fields of one scaling matrix (R176, R177): the flag 0 and the matrix-ID delta, or the flag 1, for size classes
beyond index 1 the DC value, and the coefficients. -/
def MatrixFields (sizeId : Nat) (fs : Fields) : Prop :=
  (∃ delta, fs = [(.f, 0), (.ue, delta)]) ∨
  ∃ vs : List Nat, vs.length = (if 1 < sizeId then 1 else 0) + min 64 (2 ^ (4 + 2 * sizeId)) ∧
    fs = (.f, 1) :: vs.map fun v => (.ue, v)

end Sys2Proof.Machine
end

