-- ==== Sys2Proof/Certificates/Slice0/Obligations.lean ====
section
/-! DEFINITION. The statements for the provers. They speak of every state, so of every choice of the open parameters,
which `State.params` holds (log entry 2). -/

open Sys2Proof Sys2Proof.Machine

/-! ### The command word -/

/-- R60, R61, R63: no bit of a well-formed command's word is lost by decoding. -/
def Obligations.DecodeInvertsEncode : Prop :=
  ∀ i : Instr, wellFormed i = true → decode (encode i) = .ok i

/-- R61, R64: a word the decoder accepts is the one word of a well-formed command. -/
def Obligations.EncodeInvertsDecode : Prop :=
  ∀ (w : CmdWord) (i : Instr), decode w = .ok i → wellFormed i = true ∧ encode i = w

/-- R63 in its match and mask form: which words are which command; every other word is illegal. -/
def Obligations.DecodeFollowsTheTable : Prop :=
  ∀ w : CmdWord,
    (w &&& 0x0F80 ≠ 0 → decode w = .error .reservedBits) ∧
    (∀ n, decode w = .ok (.rdb n) ↔ w &&& 0xFF80 = 0x1000 ∧ n = (w &&& 0x7F).toNat ∧ 1 ≤ n ∧ n ≤ 64) ∧
    (decode w = .ok .rdf ↔ w &&& 0xFFFF = 0x2000) ∧
    (decode w = .ok .rdue ↔ w &&& 0xFFFF = 0x3000) ∧
    (decode w = .ok .stat ↔ w &&& 0xFFFF = 0x4000) ∧
    (∀ c, decode w = .ok (.serr c) ↔
      w &&& 0xFFF8 = 0x5000 ∧ (errCode c).toNat = (w &&& 0x7).toNat ∧ 1 ≤ (w &&& 0x7).toNat ∧ (w &&& 0x7).toNat ≤ 5) ∧
    (decode w = .ok .init ↔ w &&& 0xFFFF = 0x6000) ∧
    (decode w = .ok .dsps ↔ w &&& 0xFFFF = 0x8000)

/-- R61, R64: words written out from the opcode map, legal and illegal (vectors V1 to V17). -/
def Obligations.WrittenOutWordsDecode : Prop :=
  decode 0x1001 = .ok (.rdb 1) ∧ decode 0x1040 = .ok (.rdb 64) ∧ decode 0x2000 = .ok .rdf ∧
  decode 0x3000 = .ok .rdue ∧ decode 0x4000 = .ok .stat ∧ decode 0x5003 = .ok (.serr .tooManyReferencePictures) ∧
  decode 0x6000 = .ok .init ∧ decode 0x8000 = .ok .dsps ∧
  decode 0x1000 = .error .badArgument ∧ decode 0x1041 = .error .badArgument ∧
  decode 0x1080 = .error .reservedBits ∧ decode 0x5006 = .error .badArgument ∧
  decode 0x7000 = .error .unassignedOpcode ∧ decode 0x8001 = .error .badArgument

/-! ### A step -/

/-- R91, R238: the host's next action being a legal word, the step is that command's execution, the action taken off
the pending ones. -/
def Obligations.StepRunsDecodedCommand : Prop :=
  ∀ (s : State) (w : CmdWord) (i : Instr) (rest : List HostAction),
    s.inputs = .command w :: rest → decode w = .ok i → step s = exec i { s with inputs := rest }

/-- R64, R65: an illegal word is refused; nothing changes, and the response has `ILL` = 1 and the unchanged `ERR` and
`VAL`. -/
def Obligations.IllegalWordIsRefused : Prop :=
  ∀ (s : State) (w : CmdWord) (why : IllegalWord) (rest : List HostAction),
    s.inputs = .command w :: rest → decode w = .error why →
      step s = .refused (.illegalCommand w { ill := true, err := s.err, val := s.val })

/-- R231: with no action of the host's pending the block does nothing. (That a step of an idle block is a next state
is the model's choice, log entry 1.) -/
def Obligations.IdleBlockDoesNothing : Prop :=
  ∀ s : State, s.inputs = [] → step s = .next s

/-- R99: LOAD puts the bytes into `BUF`, sets `LEN`, and re-creates the cursor; `RESULT`, `REC_VALID`, the record and
`SEQ` stay. -/
def Obligations.LoadHandsOverABuffer : Prop :=
  ∀ (s : State) (bytes : List Byte) (rest : List HostAction), s.inputs = .load bytes :: rest →
    ∃ t, step s = .next t ∧
      (∀ a (h : a < bytes.length), memRead t.buf a = bytes[a]) ∧ t.len = bytes.length ∧
      t.pos = 0 ∧ t.err = .ok ∧ t.val = 0 ∧
      t = { s with inputs := rest, buf := t.buf, len := t.len, pos := t.pos, err := t.err, val := t.val }

/-- R230: the host's reset gives every field the value it has in `State.reset`. Where R30 gives none (the bytes of `BUF`
and the temporaries) that value is the model's choice (log entries 6 and 4). What stays is the model's own: the wiring,
the pending actions and the free-value counter (log entry 17). -/
def Obligations.ResetActionResets : Prop :=
  ∀ (s : State) (rest : List HostAction), s.inputs = .reset :: rest →
    step s = .next { State.reset with params := s.params, inputs := rest, freeTick := s.freeTick }

/-- R239: a host read changes nothing. (That a read of what does not exist is a fault is the model's choice, log
entry 9.) What it gives: the register of R20 to R25 with that number, and none where no row has it; a byte below `LEN`
only (R40, R44); an entry of a sequence that has it (R23, R24); the cursor, `RESULT`, `REC_VALID`, `SEQ` and GEOM
(R27). -/
def Obligations.HostReadChangesNothing : Prop :=
  (∀ (s : State) (r : Readable) (rest : List HostAction), s.inputs = .read r :: rest →
    (hostRead { s with inputs := rest } r ≠ none → step s = .next { s with inputs := rest }) ∧
    (hostRead { s with inputs := rest } r = none → step s = .fault (.noSuchReadable r))) ∧
  ∀ s : State,
    ((List.range 45).map fun n => hostRead s (.register n)) =
      ([s.sps.nalHdr.toNat, s.sps.vpsId.toNat, s.sps.maxSubLayersMinus1.toNat, s.sps.temporalIdNestingFlag.toNat,
        s.sps.ptl.profileSpace.toNat, s.sps.ptl.tierFlag.toNat, s.sps.ptl.profileIdc.toNat,
        s.sps.ptl.compatFlags.toNat, s.sps.ptl.constraintFlags.toNat, s.sps.ptl.levelIdc.toNat,
        s.sps.spsId.toNat, s.sps.chromaFormatIdc.toNat, s.sps.separateColourPlaneFlag.toNat,
        s.sps.picWidth.toNat, s.sps.picHeight.toNat, s.sps.conformanceWindowFlag.toNat,
        s.sps.window.left.toNat, s.sps.window.right.toNat, s.sps.window.top.toNat, s.sps.window.bottom.toNat,
        s.sps.bitDepthLumaMinus8.toNat, s.sps.bitDepthChromaMinus8.toNat, s.sps.log2MaxPocLsbMinus4.toNat] ++
       [s.sps.sloiPresentFlag.toNat, s.sps.log2MinLumaCbSizeMinus3.toNat, s.sps.log2DiffMaxMinLumaCbSize.toNat,
        s.sps.log2MinLumaTbSizeMinus2.toNat, s.sps.log2DiffMaxMinLumaTbSize.toNat,
        s.sps.maxTransformHierarchyDepthInter.toNat, s.sps.maxTransformHierarchyDepthIntra.toNat,
        s.sps.scalingListEnabledFlag.toNat, s.sps.scalingListDataPresentFlag.toNat, s.sps.ampEnabledFlag.toNat,
        s.sps.saoEnabledFlag.toNat, s.sps.pcmEnabledFlag.toNat, s.sps.pcmBitDepthLumaMinus1.toNat,
        s.sps.pcmBitDepthChromaMinus1.toNat, s.sps.log2MinPcmCbSizeMinus3.toNat,
        s.sps.log2DiffMaxMinPcmCbSize.toNat, s.sps.pcmLoopFilterDisabledFlag.toNat,
        s.sps.numShortTermRefPicSets.toNat, s.sps.longTermRefPicsPresentFlag.toNat,
        s.sps.temporalMvpEnabledFlag.toNat, s.sps.strongIntraSmoothingEnabledFlag.toNat,
        s.sps.vuiParametersPresentFlag.toNat]).map (fun v => some (.number v)) ∧
    ((List.range 39).map fun n => hostRead s (.register (100 + n))) =
      ([s.vui.aspectRatioInfoPresentFlag.toNat, s.vui.aspectRatioIdc.toNat, s.vui.sarWidth.toNat,
        s.vui.sarHeight.toNat, s.vui.overscanInfoPresentFlag.toNat, s.vui.overscanAppropriateFlag.toNat,
        s.vui.videoSignalTypePresentFlag.toNat, s.vui.videoFormat.toNat, s.vui.videoFullRangeFlag.toNat,
        s.vui.colourDescriptionPresentFlag.toNat, s.vui.colourPrimaries.toNat, s.vui.transferCharacteristics.toNat,
        s.vui.matrixCoeffs.toNat, s.vui.chromaLocInfoPresentFlag.toNat, s.vui.chromaSampleLocTypeTopField.toNat,
        s.vui.chromaSampleLocTypeBottomField.toNat, s.vui.neutralChromaIndicationFlag.toNat,
        s.vui.fieldSeqFlag.toNat, s.vui.frameFieldInfoPresentFlag.toNat] ++
       [s.vui.defaultDisplayWindowFlag.toNat, s.vui.defDispWinLeftOffset.toNat, s.vui.defDispWinRightOffset.toNat,
        s.vui.defDispWinTopOffset.toNat, s.vui.defDispWinBottomOffset.toNat, s.vui.timingInfoPresentFlag.toNat,
        s.vui.numUnitsInTick.toNat, s.vui.timeScale.toNat, s.vui.pocProportionalToTimingFlag.toNat,
        s.vui.numTicksPocDiffOneMinus1.toNat, s.vui.hrdParametersPresentFlag.toNat,
        s.vui.bitstreamRestrictionFlag.toNat, s.bsr.tilesFixedStructureFlag.toNat,
        s.bsr.motionVectorsOverPicBoundariesFlag.toNat, s.bsr.restrictedRefPicListsFlag.toNat,
        s.bsr.minSpatialSegmentationIdc.toNat, s.bsr.maxBytesPerPicDenom.toNat, s.bsr.maxBitsPerMinCuDenom.toNat,
        s.bsr.log2MaxMvLengthHorizontal.toNat, s.bsr.log2MaxMvLengthVertical.toNat]).map (fun v => some (.number v)) ∧
    (∀ n, hostRead s (.register n) = none ↔ ¬ (n ≤ 44 ∨ (100 ≤ n ∧ n ≤ 138))) ∧
    (∀ a, hostRead s (.bufByte a) = if a < s.len then some (.number (memRead s.buf a).toNat) else none) ∧
    (hostRead s .len = some (.number s.len) ∧ hostRead s .pos = some (.number s.pos) ∧
      hostRead s .err = some (.number (errCode s.err).toNat) ∧ hostRead s .val = some (.number s.val.toNat) ∧
      hostRead s .result = some (.number (errCode s.result).toNat) ∧
      hostRead s .recValid = some (.number s.recValid.toNat) ∧ hostRead s .seq = some (.control s.seq)) ∧
    (hostRead s .dispWidth = some (.number (geomDispWidth s).toNat) ∧
      hostRead s .dispHeight = some (.number (geomDispHeight s).toNat)) ∧
    (hostRead s .sloiCount = some (.number s.sloi.length) ∧ hostRead s .rpsCount = some (.number s.rps.length)) ∧
    (∀ k f, s.sloi.length ≤ k → hostRead s (.sloi k f) = none) ∧
    (∀ k f, s.rps.length ≤ k → hostRead s (.rps k f) = none) ∧
    (∀ k (h : k < s.sloi.length),
      hostRead s (.sloi k 0) = some (.number s.sloi[k].f0.toNat) ∧
      hostRead s (.sloi k 1) = some (.number s.sloi[k].f1.toNat) ∧
      hostRead s (.sloi k 2) = some (.number s.sloi[k].f2.toNat) ∧ ∀ f, 2 < f → hostRead s (.sloi k f) = none) ∧
    (∀ k (h : k < s.rps.length),
      hostRead s (.rps k .interFlag) = some (.number s.rps[k].interFlag.toNat) ∧
      hostRead s (.rps k .numNegativePics) = some (.number s.rps[k].numNegativePics.toNat) ∧
      hostRead s (.rps k .numPositivePics) = some (.number s.rps[k].numPositivePics.toNat) ∧
      hostRead s (.rps k .numDeltaPocs) = some (.number s.rps[k].numDeltaPocs.toNat) ∧
      hostRead s (.rps k .s0Count) = some (.number s.rps[k].s0.length) ∧
      hostRead s (.rps k .s1Count) = some (.number s.rps[k].s1.length) ∧
      (∀ i, hostRead s (.rps k (.s0Delta i)) = s.rps[k].s0[i]?.map (fun d => .number d.1.toNat) ∧
        hostRead s (.rps k (.s0Used i)) = s.rps[k].s0[i]?.map (fun d => .number d.2.toNat) ∧
        hostRead s (.rps k (.s1Delta i)) = s.rps[k].s1[i]?.map (fun d => .number d.1.toNat) ∧
        hostRead s (.rps k (.s1Used i)) = s.rps[k].s1[i]?.map (fun d => .number d.2.toNat)))

/-! ### The cursor commands -/

/-- R92, with R90 and R93: the three outcomes of `RDB n`, and nothing else changes. -/
def Obligations.RdbResult : Prop :=
  ∀ (n : Nat) (s : State), 1 ≤ n → n ≤ 64 →
    exec (.rdb n) s = .next
      (if s.err ≠ .ok then { s with val := 0 }
       else if 8 * s.len - s.pos < n then { s with err := .truncated, val := 0 }
       else { s with val := BitVec.ofNat 64 (streamBits s.buf s.pos n), pos := s.pos + n })

/-- R41, R92: the first stream bit is bit `n-1` of the result, bit `POS + i` is bit `n-1-i`, and the bits from `n` on
are zero. -/
def Obligations.RdbValueBits : Prop :=
  ∀ (n : Nat) (s t : State), 1 ≤ n → n ≤ 64 → s.err = .ok → s.pos + n ≤ 8 * s.len → exec (.rdb n) s = .next t →
    (∀ i < n, t.val.getLsbD (n - 1 - i) =
      (memRead s.buf ((s.pos + i) / 8)).getLsbD (7 - (s.pos + i) % 8)) ∧
    (∀ j, n ≤ j → t.val.getLsbD j = false)

/-- R42: reading `n` bits and then `k` bits reads the same bits as reading `n + k` bits. -/
def Obligations.ConsecutiveReadsAssociate : Prop :=
  ∀ (n k : Nat) (s : State), 1 ≤ n → 1 ≤ k → n + k ≤ 64 → s.err = .ok → s.pos + (n + k) ≤ 8 * s.len →
    ∃ a b c, exec (.rdb n) s = .next a ∧ exec (.rdb k) a = .next b ∧ exec (.rdb (n + k)) s = .next c ∧
      c.val.toNat = a.val.toNat * 2 ^ k + b.val.toNat ∧ b.pos = c.pos ∧ b.err = c.err

/-- R95: `RDF` is `RDB 1`; `VAL` is the one bit, 0 or 1. -/
def Obligations.RdfResult : Prop :=
  ∀ s : State,
    exec .rdf s = exec (.rdb 1) s ∧
    exec .rdf s = .next
      (if s.err ≠ .ok then { s with val := 0 }
       else if 8 * s.len ≤ s.pos then { s with err := .truncated, val := 0 }
       else { s with val := if streamBit s.buf s.pos then 1 else 0, pos := s.pos + 1 })

/-- R96: `STAT` gives the latch's code, whatever it is, and changes nothing else. -/
def Obligations.StatResult : Prop :=
  ∀ s : State, exec .stat s = .next { s with val := BitVec.ofNat 64 (errCode s.err).toNat }

/-- R97, R203: `SERR c` latches `c` if the latch is clear, and sets `VAL` to 0; nothing else changes. -/
def Obligations.SerrResult : Prop :=
  ∀ (c : ErrCode) (s : State), c ≠ .ok →
    exec (.serr c) s = .next { s with err := if s.err = .ok then c else s.err, val := 0 }

/-- R98: `INIT` clears `POS`, `ERR` and `VAL` and nothing else. -/
def Obligations.InitResult : Prop :=
  ∀ s : State, exec .init s = .next { s with pos := 0, err := .ok, val := 0 }

/-- R64, R66: a term whose operand no legal word holds is no command; it is refused by name, whatever the state. (No word
decodes to one; that `exec` refuses it is the model's choice, log entry 8.) -/
def Obligations.IllFormedTermIsRefused : Prop :=
  ∀ (i : Instr) (s : State), wellFormed i = false ↔ ∃ r, exec i s = .refused (.illegalOperand r)

/-- R90: with the latch set the three reads leave `VAL` = 0 and change nothing else. -/
def Obligations.LatchedReadsGiveZero : Prop :=
  ∀ s : State, s.err ≠ .ok →
    (∀ n, 1 ≤ n → n ≤ 64 → exec (.rdb n) s = .next { s with val := 0 }) ∧
    exec .rdf s = .next { s with val := 0 } ∧ exec .rdue s = .next { s with val := 0 }

/-- R71, R110, R111: a codeword of `lz` zeros, a one and `lz` suffix bits inside the buffer gives
`(1 << lz) - 1 + suffix` and advances `POS` by `2*lz + 1`; nothing else changes. -/
def Obligations.RdueDecodesACodeword : Prop :=
  ∀ (lz : Nat) (s : State), s.err = .ok → lz ≤ 32 →
    (∀ i < lz, streamBit s.buf (s.pos + i) = false) → streamBit s.buf (s.pos + lz) = true →
    s.pos + 2 * lz + 1 ≤ 8 * s.len →
    exec .rdue s = .next
      { s with val := BitVec.ofNat 64 (2 ^ lz - 1 + streamBits s.buf (s.pos + lz + 1) lz), pos := s.pos + 2 * lz + 1 }

/-- R113: the end of the buffer met first, after at most 32 zero bits, is `Truncated`. -/
def Obligations.RdueRunsOutOfBits : Prop :=
  ∀ s : State, s.err = .ok → 8 * s.len - s.pos ≤ 32 → (∀ p, s.pos ≤ p → p < 8 * s.len → streamBit s.buf p = false) →
    exec .rdue s = .next { s with err := .truncated, val := 0 }

/-- R113: the 33rd zero bit is `Malformed`, whatever follows. -/
def Obligations.RdueSeesTooManyZeros : Prop :=
  ∀ s : State, s.err = .ok → s.pos + 33 ≤ 8 * s.len → (∀ i < 33, streamBit s.buf (s.pos + i) = false) →
    exec .rdue s = .next { s with err := .malformed, val := 0 }

/-- R113, R114: a suffix that runs past the end is `Truncated`, and nothing is consumed. -/
def Obligations.RdueSuffixTruncated : Prop :=
  ∀ (lz : Nat) (s : State), s.err = .ok → lz ≤ 32 →
    (∀ i < lz, streamBit s.buf (s.pos + i) = false) → streamBit s.buf (s.pos + lz) = true →
    s.pos + lz < 8 * s.len → 8 * s.len < s.pos + 2 * lz + 1 →
    exec .rdue s = .next { s with err := .truncated, val := 0 }

/-- R93, R114: a read that latches an error consumes nothing and gives 0; and while the latch is set `POS` stays where it
is, under every command but the two that re-create the cursor. -/
def Obligations.FailingReadsConsumeNothing : Prop :=
  (∀ (i : Instr) (s t : State), (i = .rdf ∨ i = .rdue ∨ ∃ n, i = .rdb n) → exec i s = .next t →
    s.err = .ok → t.err ≠ .ok → t.pos = s.pos ∧ t.val = 0) ∧
  ∀ (i : Instr) (s t : State), i ≠ .init → i ≠ .dsps → s.err ≠ .ok → exec i s = .next t →
    t.pos = s.pos ∧ t.err = s.err

/-- R115: the canonical codeword of `v` decodes to `v`, for every `v` up to `2^33 - 2`. With `k = floor(log2(v+1))` the
codeword, read as one number of `2k + 1` bits, is `v + 1`. -/
def Obligations.RdueRoundTrip : Prop :=
  ∀ (v : Nat) (s : State), v ≤ 2 ^ 33 - 2 → s.err = .ok → s.pos + (2 * Nat.log2 (v + 1) + 1) ≤ 8 * s.len →
    streamBits s.buf s.pos (2 * Nat.log2 (v + 1) + 1) = v + 1 →
    exec .rdue s = .next { s with val := BitVec.ofNat 64 v, pos := s.pos + (2 * Nat.log2 (v + 1) + 1) }

/-- R116, with the range of R112: a successful `RDUE` that returns `v` advances `POS` by `2*floor(log2(v+1)) + 1` bits,
at most 65, and `v` is at most `2^33 - 2`. -/
def Obligations.RdueLength : Prop :=
  ∀ s t : State, exec .rdue s = .next t → s.err = .ok → t.err = .ok →
    t.pos = s.pos + (2 * Nat.log2 (t.val.toNat + 1) + 1) ∧ t.pos ≤ s.pos + 65 ∧ t.val.toNat ≤ 2 ^ 33 - 2

/-- R27, R45: every command but DSPS changes `POS`, `ERR` and `VAL` only; every byte of memory reads as before. -/
def Obligations.CursorCommandsFrame : Prop :=
  ∀ (i : Instr) (s t : State), i ≠ .dsps → exec i s = .next t →
    t = { s with pos := t.pos, err := t.err, val := t.val } ∧ ∀ a, memRead t.buf a = memRead s.buf a

/-- R94 (4): no command but INIT and DSPS decreases `POS`; R16: no command at all leaves it beyond the stream. -/
def Obligations.CursorNeverGoesBack : Prop :=
  ∀ (i : Instr) (s t : State), exec i s = .next t →
    (i ≠ .init → i ≠ .dsps → s.pos ≤ t.pos) ∧ (s.pos ≤ 8 * s.len → t.pos ≤ 8 * t.len)

/-! ### Rules of the whole machine -/

/-- R203, R212: a set latch keeps its first error through every step but INIT, DSPS, LOAD and reset. -/
def Obligations.LatchClearedOnlyByRecreation : Prop :=
  ∀ s t : State, step s = .next t → s.err ≠ .ok →
    t.err = s.err ∨
    ∃ rest, s.inputs = .command 0x6000 :: rest ∨ s.inputs = .command 0x8000 :: rest ∨
      (∃ bytes, s.inputs = .load bytes :: rest) ∨ s.inputs = .reset :: rest

/-- R11, R12, R45: only LOAD and reset write the buffer. -/
def Obligations.BufferWrittenOnlyByLoad : Prop :=
  ∀ s t : State, step s = .next t →
    (t.buf = s.buf ∧ t.len = s.len) ∨
    ∃ rest, (∃ bytes, s.inputs = .load bytes :: rest) ∨ s.inputs = .reset :: rest

/-- R27: only DSPS and reset write the record, `RESULT`, `REC_VALID`, `SEQ` and the temporaries. -/
def Obligations.RecordWrittenOnlyByDsps : Prop :=
  ∀ s t : State, step s = .next t →
    (t.sps = s.sps ∧ t.sloi = s.sloi ∧ t.rps = s.rps ∧ t.vui = s.vui ∧ t.bsr = s.bsr ∧ t.result = s.result ∧
      t.recValid = s.recValid ∧ t.seq = s.seq ∧ t.temps = s.temps) ∨
    ∃ rest, s.inputs = .command 0x8000 :: rest ∨ s.inputs = .reset :: rest

/-- R233: the parameters are fixed for the life of the block. -/
def Obligations.ParametersNeverChange : Prop :=
  ∀ s t : State, step s = .next t → t.params = s.params

/-- R44: no command, DSPS included, depends on a byte at an address `>= LEN`. -/
def Obligations.CommandsReadInsideTheBuffer : Prop :=
  ∀ (i : Instr) (s t : State) (m : Memory), (∀ a < s.len, memRead m a = memRead s.buf a) → exec i s = .next t →
    exec i { s with buf := m } = .next { t with buf := m }

/-- R16, R17, R24, R112, R130, R135, R189, R192: every step keeps the invariant. -/
def Obligations.InvariantKept : Prop :=
  ∀ s t : State, Inv s → step s = .next t → Inv t

/-- R30: the invariant holds at reset. -/
def Obligations.InvariantAtReset : Prop := Inv State.reset

/-! ### DSPS -/

/-- R125, R239: a DSPS always completes, with `SEQ` = `DONE` and `VAL` the final latch; the buffer, byte for byte, and
what is not the spec's own (the wiring, the host's further actions) stay. -/
def Obligations.DspsCompletes : Prop :=
  ∀ s : State, ∃ t, exec .dsps s = .next t ∧ t.seq = .done ∧ t.val = BitVec.ofNat 64 (errCode t.err).toNat ∧
    t.buf = s.buf ∧ t.len = s.len ∧ t.params = s.params ∧ t.inputs = s.inputs ∧
    ∀ a, memRead t.buf a = memRead s.buf a

/-- R28, R125: nothing of an earlier cursor, record, result, control state or temporary reaches a DSPS. -/
def Obligations.DspsForgetsTheOldState : Prop :=
  ∀ s u : State, s.buf = u.buf → s.len = u.len → s.params = u.params → s.inputs = u.inputs → s.freeTick = u.freeTick →
    exec .dsps s = exec .dsps u

/-- R127: another unit type ends the walk at step Q1: `RESULT` = 5, no record, the latch untouched, and only the header
kept. -/
def Obligations.WrongUnitTypeStopsAtOnce : Prop :=
  ∀ s : State, 2 ≤ s.len → classify s.params (memRead s.buf 0) ≠ s.params.spsTag →
    ∃ t, exec .dsps s = .next t ∧ t.result = .wrongUnitType ∧ t.recValid = false ∧ t.err = .ok ∧ t.pos = 16 ∧
      t.val = 0 ∧ t.seq = .done ∧ t.sps = { nalHdr := memRead s.buf 0 ++ memRead s.buf 1 } ∧
      t.sloi = [] ∧ t.rps = [] ∧ t.vui = {} ∧ t.bsr = {}

/-- R127, R209 (4), R211 (a): a header cut short is classified as byte 0; the unit-type result wins in `RESULT`, the
latch keeps `Truncated`. -/
def Obligations.TruncatedHeader : Prop :=
  ∀ s : State, s.len < 2 → classify s.params 0 ≠ s.params.spsTag →
    ∃ t, exec .dsps s = .next t ∧ t.result = .wrongUnitType ∧ t.recValid = false ∧ t.err = .truncated ∧ t.pos = 0 ∧
      t.val = 1 ∧ t.seq = .done ∧ t.sps = {} ∧ t.sloi = [] ∧ t.rps = [] ∧ t.vui = {} ∧ t.bsr = {}

/-- R128 to R130: with `maxSubLayersMinus1` not 0 the walk ends after the ProfileTierLevel with `RESULT` = 0; registers
0 to 9 hold the fields of the stream, all later ones are 0. -/
def Obligations.SubLayerExit : Prop :=
  ∀ s : State, 15 ≤ s.len → classify s.params (memRead s.buf 0) = s.params.spsTag → streamBits s.buf 20 3 ≠ 0 →
    ∃ t, exec .dsps s = .next t ∧ t.result = .ok ∧ t.recValid = true ∧ t.err = .ok ∧ t.pos = 120 ∧ t.val = 0 ∧
      t.seq = .done ∧ t.sloi = [] ∧ t.rps = [] ∧ t.vui = {} ∧ t.bsr = {} ∧
      t.sps = {
        nalHdr := memRead s.buf 0 ++ memRead s.buf 1
        vpsId := BitVec.ofNat 4 (streamBits s.buf 16 4)
        maxSubLayersMinus1 := BitVec.ofNat 3 (streamBits s.buf 20 3)
        temporalIdNestingFlag := streamBit s.buf 23
        ptl := {
          profileSpace := BitVec.ofNat 2 (streamBits s.buf 24 2)
          tierFlag := streamBit s.buf 26
          profileIdc := BitVec.ofNat 5 (streamBits s.buf 27 5)
          compatFlags := BitVec.ofNat 32 (streamBits s.buf 32 32)
          constraintFlags := BitVec.ofNat 48 (streamBits s.buf 64 48)
          levelIdc := BitVec.ofNat 8 (streamBits s.buf 112 8) } }

/-- R149 (b): an SPS header alone: the first read of step Q2 latches `Truncated`, the walk goes on to Q14 and reports it;
only the header is set, and step Q7 appends one entry of zeros. R149 (a): the fields of a minimal SPS wholly inside the
buffer decode with `RESULT` = 0, and every register holds what the stream encodes for it; a conformance window is
there or not. -/
def Obligations.HeaderOnlyBuffer : Prop :=
  (∀ s : State, s.len = 2 → classify s.params (memRead s.buf 0) = s.params.spsTag →
    ∃ t, exec .dsps s = .next t ∧ t.result = .truncated ∧ t.recValid = true ∧ t.err = .truncated ∧ t.pos = 16 ∧
      t.val = 1 ∧ t.seq = .done ∧ t.sps = { nalHdr := memRead s.buf 0 ++ memRead s.buf 1 } ∧
      t.sloi = [⟨0, 0, 0⟩] ∧ t.rps = [] ∧ t.vui = {} ∧ t.bsr = {}) ∧
  ∀ (s : State) (fs : Fields) (hdr vps space idc compat constraint level id width height luma chroma poc : Nat)
    (nesting tier sloi amp sao mvp smooth : Bool) (crop : Option (Nat × Nat × Nat × Nat)) (f0 f1 f2 : Nat)
    (cbMin cbDiff tbMin tbDiff inter intra : Nat),
    classify s.params (memRead s.buf 0) = s.params.spsTag →
    fs = List.flatten [
      [(.u 16, hdr), (.u 4, vps), (.u 3, 0), (.f, nesting.toNat)],
      [(.u 2, space), (.f, tier.toNat), (.u 5, idc), (.u 32, compat), (.u 48, constraint), (.u 8, level)],
      [(.ue, id), (.ue, 1)],
      [(.ue, width), (.ue, height)],
      match crop with
        | none => [(.f, 0)]
        | some (left, right, top, bottom) => [(.f, 1), (.ue, left), (.ue, right), (.ue, top), (.ue, bottom)],
      [(.ue, luma), (.ue, chroma), (.ue, poc)],
      [(.f, sloi.toNat), (.ue, f0), (.ue, f1), (.ue, f2)],
      [(.ue, cbMin), (.ue, cbDiff), (.ue, tbMin), (.ue, tbDiff), (.ue, inter), (.ue, intra)],
      [(.f, 0)],
      [(.f, amp.toNat), (.f, sao.toNat), (.f, 0)],
      [(.ue, 0)],
      [(.f, 0)],
      [(.f, mvp.toNat), (.f, smooth.toNat), (.f, 0)]] →
    fieldsWidth fs ≤ 8 * s.len → fieldsAt s.buf 0 fs = true →
    ∃ t, exec .dsps s = .next t ∧ t.result = .ok ∧ t.recValid = true ∧ t.err = .ok ∧ t.pos = fieldsWidth fs ∧
      t.sloi = [⟨BitVec.ofNat 64 f0, BitVec.ofNat 64 f1, BitVec.ofNat 64 f2⟩] ∧ t.rps = [] ∧ t.vui = {} ∧ t.bsr = {} ∧
      t.sps = {
        nalHdr := BitVec.ofNat 16 hdr
        vpsId := BitVec.ofNat 4 vps
        temporalIdNestingFlag := nesting
        ptl := {
          profileSpace := BitVec.ofNat 2 space
          tierFlag := tier
          profileIdc := BitVec.ofNat 5 idc
          compatFlags := BitVec.ofNat 32 compat
          constraintFlags := BitVec.ofNat 48 constraint
          levelIdc := BitVec.ofNat 8 level }
        spsId := BitVec.ofNat 64 id
        chromaFormatIdc := 1
        picWidth := BitVec.ofNat 64 width
        picHeight := BitVec.ofNat 64 height
        conformanceWindowFlag := crop.isSome
        window := match crop with
          | none => {}
          | some (left, right, top, bottom) =>
            { left := BitVec.ofNat 64 left, right := BitVec.ofNat 64 right, top := BitVec.ofNat 64 top,
              bottom := BitVec.ofNat 64 bottom }
        bitDepthLumaMinus8 := BitVec.ofNat 64 luma
        bitDepthChromaMinus8 := BitVec.ofNat 64 chroma
        log2MaxPocLsbMinus4 := BitVec.ofNat 64 poc
        sloiPresentFlag := sloi
        log2MinLumaCbSizeMinus3 := BitVec.ofNat 64 cbMin
        log2DiffMaxMinLumaCbSize := BitVec.ofNat 64 cbDiff
        log2MinLumaTbSizeMinus2 := BitVec.ofNat 64 tbMin
        log2DiffMaxMinLumaTbSize := BitVec.ofNat 64 tbDiff
        maxTransformHierarchyDepthInter := BitVec.ofNat 64 inter
        maxTransformHierarchyDepthIntra := BitVec.ofNat 64 intra
        ampEnabledFlag := amp
        saoEnabledFlag := sao
        temporalMvpEnabledFlag := mvp
        strongIntraSmoothingEnabledFlag := smooth }

/-- R211: after a DSPS `RESULT` is `ERR`, but at the wrong-unit-type stop (`RESULT` = 5, `ERR` = 0 or 1) and at the
sub-layer exit with the ProfileTierLevel cut short (`RESULT` = 0, `ERR` = 1). R210: which it is, stop by stop. R140,
R141: at the checkpoint the entry whose decode latched the error is the last of `RPS`, and steps Q12 and Q13 are not
executed. That entry is the one this run decodes after `n` entries without an error: `v` is the state in which step
Q11's loop, begun after the count was read, has appended `n` entries. -/
def Obligations.ResultAgainstLatch : Prop :=
  (∀ s t : State, exec .dsps s = .next t →
    t.result = t.err ∨
    (t.result = .wrongUnitType ∧ t.recValid = false ∧ (t.err = .ok ∨ t.err = .truncated)) ∨
    (t.result = .ok ∧ t.recValid = true ∧ t.err = .truncated ∧ t.sps.maxSubLayersMinus1 ≠ 0)) ∧
  (∀ s u : State, seqQ1 (startDsps s) = .stop u →
    ∃ t, exec .dsps s = .next t ∧ t.result = .wrongUnitType ∧ t.recValid = false) ∧
  (∀ s a u : State, seqQ1 (startDsps s) = .go a → seqQ3 (seqQ2 a) = .stop u →
    ∃ t, exec .dsps s = .next t ∧ t.result = .ok ∧ t.recValid = true) ∧
  (∀ s a b u : State, seqQ1 (startDsps s) = .go a → seqQ3 (seqQ2 a) = .go b → seqQ11 (seqQ4toQ10 b) = .stop u →
    ∃ t, exec .dsps s = .next t ∧ t.err ≠ .ok ∧ t.result = t.err ∧ t.recValid = true ∧
      t.sps.longTermRefPicsPresentFlag = false ∧ t.sps.temporalMvpEnabledFlag = false ∧
      t.sps.strongIntraSmoothingEnabledFlag = false ∧ t.sps.vuiParametersPresentFlag = false ∧
      t.vui = {} ∧ t.bsr = {} ∧
      ∃ (n : Nat) (v w : State) (e : RpsEntry), n < t.sps.numShortTermRefPicSets.toNat ∧
        rpsLoop n 0 (readSps .ue (fun x r => { r with numShortTermRefPicSets := x }) (setSeq .q11 (seqQ4toQ10 b))) =
          .go v ∧
        v.err = .ok ∧ v.rps.length = n ∧ v.buf = s.buf ∧ v.len = s.len ∧
        shortTermRps (BitVec.ofNat 64 n) t.sps.numShortTermRefPicSets
          { v with temps := { v.temps with idx := BitVec.ofNat 64 n } } = (w, e) ∧
        t.err = w.err ∧ t.pos = w.pos ∧ t.rps = v.rps ++ [e]) ∧
  (∀ s a b c : State, seqQ1 (startDsps s) = .go a → seqQ3 (seqQ2 a) = .go b → seqQ11 (seqQ4toQ10 b) = .go c →
    ∃ t, exec .dsps s = .next t ∧ t.result = t.err ∧ t.recValid = true)

/-- R14, R19, R200: a DSPS never latches code 5, and returns no record exactly when the unit type is wrong. -/
def Obligations.NoRecordMeansWrongUnitType : Prop :=
  ∀ s t : State, exec .dsps s = .next t → t.err ≠ .wrongUnitType ∧ (t.recValid = false ↔ t.result = .wrongUnitType)

/-- R135: one SubLayerOrderingInfo in every run that reaches step Q7, none in a run that stops before it. -/
def Obligations.SloiHasOneEntry : Prop :=
  ∀ s t : State, exec .dsps s = .next t →
    t.sloi.length = if t.recValid = true ∧ t.sps.maxSubLayersMinus1 = 0 then 1 else 0

/-- R189: at the HRD exit the bitstream-restriction flag and every `BSR.*` register stay 0, and nothing is read after the
flag that takes it: the routine ends in the very state that the group of timing info leaves. R180: without the exit it
goes on with the bitstream restrictions; the groups before run in their order. -/
def Obligations.HrdExit : Prop :=
  (∀ s t : State, exec .dsps s = .next t → t.vui.hrdParametersPresentFlag = true →
    t.vui.bitstreamRestrictionFlag = false ∧ t.bsr = {}) ∧
  (∀ s : State, vuiGroups s = vuiTiming (vuiDisplayWindow (vuiThreeFlags (vuiChromaLocation (vuiVideoSignal
    (vuiOverscan (vuiAspectRatio s))))))) ∧
  (∀ s : State, hrdExit (vuiGroups s) = true → vuiParameters s = vuiGroups s) ∧
  (∀ s : State, hrdExit (vuiGroups s) = false → vuiParameters s = vuiRestrictionFlag (vuiGroups s))

/-- R192: after a DSPS the registers of a group whose presence flag is 0 are 0. -/
def Obligations.AbsentGroupsAreZero : Prop :=
  ∀ s t : State, exec .dsps s = .next t →
    (t.sps.vuiParametersPresentFlag = false → t.vui = {}) ∧
    (t.vui.aspectRatioInfoPresentFlag = false →
      t.vui.aspectRatioIdc = 0 ∧ t.vui.sarWidth = 0 ∧ t.vui.sarHeight = 0) ∧
    (t.vui.overscanInfoPresentFlag = false → t.vui.overscanAppropriateFlag = false) ∧
    (t.vui.videoSignalTypePresentFlag = false →
      t.vui.videoFormat = 0 ∧ t.vui.videoFullRangeFlag = false ∧ t.vui.colourDescriptionPresentFlag = false) ∧
    (t.vui.colourDescriptionPresentFlag = false →
      t.vui.colourPrimaries = 0 ∧ t.vui.transferCharacteristics = 0 ∧ t.vui.matrixCoeffs = 0) ∧
    (t.vui.chromaLocInfoPresentFlag = false →
      t.vui.chromaSampleLocTypeTopField = 0 ∧ t.vui.chromaSampleLocTypeBottomField = 0) ∧
    (t.vui.defaultDisplayWindowFlag = false →
      t.vui.defDispWinLeftOffset = 0 ∧ t.vui.defDispWinRightOffset = 0 ∧
      t.vui.defDispWinTopOffset = 0 ∧ t.vui.defDispWinBottomOffset = 0) ∧
    (t.vui.timingInfoPresentFlag = false →
      t.vui.numUnitsInTick = 0 ∧ t.vui.timeScale = 0 ∧ t.vui.pocProportionalToTimingFlag = false ∧
      t.vui.hrdParametersPresentFlag = false) ∧
    (t.vui.pocProportionalToTimingFlag = false → t.vui.numTicksPocDiffOneMinus1 = 0) ∧
    (t.vui.bitstreamRestrictionFlag = false → t.bsr = {})

/-! ### The routines of the walk -/

/-- R166 to R171: an entry that is not predicted. Too many pictures latch an error and leave no list; otherwise the
lists are as long as the counts say, the counts' sum is `NumDeltaPocs`, and every stored delta is from 1 to
`2^33 - 1`. And what is in the lists: with the counts and the pairs of the stream inside the buffer, the negative pairs
first, each list holds its pairs in order, the value plus one. -/
def Obligations.ExplicitEntry : Prop :=
  (∀ (idx num : Word) (s t : State) (e : RpsEntry), shortTermRps idx num s = (t, e) → e.interFlag = false →
    ((16 < e.numNegativePics.toNat ∨ 16 < e.numPositivePics.toNat) →
      e.numDeltaPocs = 0 ∧ e.s0 = [] ∧ e.s1 = [] ∧ t.err ≠ .ok) ∧
    (e.numNegativePics.toNat ≤ 16 → e.numPositivePics.toNat ≤ 16 →
      e.numDeltaPocs.toNat = e.numNegativePics.toNat + e.numPositivePics.toNat ∧
      e.s0.length = e.numNegativePics.toNat ∧ e.s1.length = e.numPositivePics.toNat ∧
      ∀ d ∈ e.s0 ++ e.s1, 1 ≤ d.1.toNat ∧ d.1.toNat ≤ 2 ^ 33 - 1)) ∧
  ∀ (idx num : Word) (s : State) (neg pos : List (Nat × Bool)) (fs : Fields), neg.length ≤ 16 → pos.length ≤ 16 →
    fs = List.flatten [if idx = 0 then [] else [(.f, 0)], [(.ue, neg.length), (.ue, pos.length)], pairFields neg,
      pairFields pos] →
    StreamHolds s fs →
    ∃ t, shortTermRps idx num s =
        (t, { numNegativePics := BitVec.ofNat 64 neg.length, numPositivePics := BitVec.ofNat 64 pos.length,
              numDeltaPocs := BitVec.ofNat 64 (neg.length + pos.length),
              s0 := storedPairs neg, s1 := storedPairs pos }) ∧
      ReadsInto fs s t s

/-- R167: with the latch clear and both counts read without failure, a count above 16 latches
`TooManyReferencePictures`, the cursor standing just after the two counts (R207). For entry 0, which reads no
prediction flag, and for a later entry whose prediction flag is read as 0 (R161). -/
def Obligations.TooManyPicturesLatched : Prop :=
  ∀ (idx num : Word) (s r : State), r = (if idx = 0 then s else readFlag s) → (idx ≠ 0 → r.val = 0) →
    (readUe (readUe r)).err = .ok → (16 < (readUe r).val.toNat ∨ 16 < (readUe (readUe r)).val.toNat) →
    ∃ t, shortTermRps idx num s =
        (t, { numNegativePics := (readUe r).val, numPositivePics := (readUe (readUe r)).val }) ∧
      t.err = .tooManyReferencePictures ∧ t.pos = (readUe (readUe r)).pos

/-- R162, R163: in the slice-header context (`idx = num`) a reference `deltaIdx > idx` latches `Malformed` and the
routine returns at once; nothing more is read. -/
def Obligations.ForwardReferenceIsMalformed : Prop :=
  ∀ (idx : Word) (s : State), idx ≠ 0 → (readFlag s).val = 1 → (readUe (readFlag s)).err = .ok →
    idx.toNat < (readUe (readFlag s)).val.toNat + 1 →
    ∃ t, shortTermRps idx idx s = (t, { interFlag := true }) ∧ t.err = .malformed ∧ t.pos = (readUe (readFlag s)).pos

/-- R165, R172: a predicted entry outside the slice-header context holds only a count, which is at most the count of the
entry before it. R162, R164, R165: how large it is, in either context: with the fields of the stream inside the buffer,
it is the number of the reference entry's prior pictures whose `usedByCurrPicFlag` or `useDeltaFlag` is 1. -/
def Obligations.PredictedEntry : Prop :=
  (∀ (idx num : Word) (s t : State) (e : RpsEntry), shortTermRps idx num s = (t, e) → idx ≠ num → 0 < idx.toNat →
    idx.toNat ≤ s.rps.length → e.interFlag = true →
    e = { interFlag := true, numDeltaPocs := e.numDeltaPocs } ∧
    ∃ ref, s.rps[idx.toNat - 1]? = some ref ∧ e.numDeltaPocs.toNat ≤ ref.numDeltaPocs.toNat) ∧
  ∀ (idx num : Word) (s : State) (d magnitude : Nat) (sign : Bool) (ref : RpsEntry) (prior : List (Option Bool))
    (fs : Fields), idx ≠ 0 → d + 1 ≤ idx.toNat → (idx ≠ num → d = 0) → s.rps[idx.toNat - (d + 1)]? = some ref →
    prior.length = ref.numDeltaPocs.toNat →
    fs = List.flatten [[(.f, 1)], if idx = num then [(.ue, d)] else [], [(.f, sign.toNat), (.ue, magnitude)],
      priorFields prior] →
    StreamHolds s fs →
    ∃ t, shortTermRps idx num s =
        (t, { interFlag := true, numDeltaPocs := BitVec.ofNat 64 (priorCount prior) }) ∧
      ReadsInto fs s t s

/-- R142: the model's loop over the long-term entries, which stops reading once the latch is set, is the rule's loop.
(Leaving the loop early is the model's choice, log entry 11.) -/
def Obligations.LongTermClosedForm : Prop :=
  ∀ (count first : Nat) (s : State), longTermSkip count first s = repeatFor longTermEntry count first s

/-- R143: above 64 bits the skip is not read; `Malformed` is latched, if the latch was clear, and `POS` stays. R142: up
to 64 bits it is one read of that width, and one flag follows; nothing else changes but the loop index. -/
def Obligations.LongTermWidthGuard : Prop :=
  (∀ (i : Nat) (s : State), 64 < s.sps.log2MaxPocLsbMinus4.toNat + 4 →
    (longTermEntry i s).err = (if s.err = .ok then .malformed else s.err) ∧ (longTermEntry i s).pos = s.pos ∧
      (longTermEntry i s).val = 0) ∧
  (∀ (i : Nat) (s : State), s.sps.log2MaxPocLsbMinus4.toNat + 4 ≤ 64 →
    longTermEntry i s = { readFlag (readBits (s.sps.log2MaxPocLsbMinus4.toNat + 4) s) with
      temps := { s.temps with i := i } }) ∧
  ∀ (i n : Nat) (s : State) (v : Nat) (flag : Bool), n = s.sps.log2MaxPocLsbMinus4.toNat + 4 → n ≤ 64 →
    StreamHolds s [(.u n, v), (.f, flag.toNat)] →
    ReadsInto [(.u n, v), (.f, flag.toNat)] s (longTermEntry i s) s ∧ (longTermEntry i s).pos = s.pos + n + 1

/-- R175, R178: the scaling-list skip moves the cursor and keeps everything else but `SEQ` and the temporaries. -/
def Obligations.ScalingSkipKeepsTheRecord : Prop :=
  ∀ s : State, scalingListSkip s =
    { s with pos := (scalingListSkip s).pos, err := (scalingListSkip s).err, val := (scalingListSkip s).val,
             seq := (scalingListSkip s).seq, temps := (scalingListSkip s).temps }

/-- R179: twenty matrices with prediction-mode flag 0 and delta codeword `1` are 40 bits. R176, R177: a matrix is its
flag and its delta, or its flag, the DC value where the size class has one, and its coefficients; R175: the routine
reads six matrices of size class 0, six of 1, six of 2 and two of 3, in this order, and nothing else. -/
def Obligations.ScalingSkipShortest : Prop :=
  (∀ s : State, s.err = .ok → s.pos + 40 ≤ 8 * s.len →
    (∀ i < 20, streamBit s.buf (s.pos + 2 * i) = false ∧ streamBit s.buf (s.pos + 2 * i + 1) = true) →
    (scalingListSkip s).pos = s.pos + 40 ∧ (scalingListSkip s).err = .ok) ∧
  (∀ (sizeId matrixId : Nat) (s : State) (fs : Fields), MatrixFields sizeId fs → StreamHolds s fs →
    ReadsInto fs s (skipOneMatrix sizeId matrixId s) s) ∧
  ∀ (s : State) (matrices : List Fields),
    List.Forall₂ MatrixFields (List.replicate 6 0 ++ List.replicate 6 1 ++ List.replicate 6 2 ++ List.replicate 2 3)
      matrices →
    StreamHolds s matrices.flatten → ReadsInto matrices.flatten s (scalingListSkip s) s

/-- R181, C1: an IDC the lookup rejects latches `UnknownAspectRatioIDC`; every later read of the routine gives 0, so only
the presence flag and the IDC are set. -/
def Obligations.RejectedAspectRatio : Prop :=
  ∀ s : State, s.err = .ok → s.vui = {} → s.pos + 9 ≤ 8 * s.len → streamBit s.buf s.pos = true →
    BitVec.ofNat 8 (streamBits s.buf (s.pos + 1) 8) ≠ s.params.extendedSar →
    lookupSar s.params (BitVec.ofNat 8 (streamBits s.buf (s.pos + 1) 8)) = none →
    (vuiParameters s).err = .unknownAspectRatioIDC ∧ (vuiParameters s).pos = s.pos + 9 ∧
      (vuiParameters s).bsr = s.bsr ∧
      (vuiParameters s).vui =
        { aspectRatioInfoPresentFlag := true, aspectRatioIdc := BitVec.ofNat 8 (streamBits s.buf (s.pos + 1) 8) }

/-! ### The stream's fields, register by register -/

/-- R131 to R139, R142, R144, R145, R181 to R188, R190, R191: where the stream holds a step's fields inside the buffer, the step
puts each field in its own register, in the order of the rule, takes the branch that its flag says, and changes nothing
else but the cursor, `SEQ` and the temporaries. R140, R141: step Q11 appends each entry to `RPS` and goes on with the
next one, or stops with the latch in `RESULT`. -/
def Obligations.StreamFieldsInOrder : Prop :=
  -- Q4
  (∀ (s : State) (id idc : Nat), idc ≠ 3 → StreamHolds s [(.ue, id), (.ue, idc)] →
    ReadsInto [(.ue, id), (.ue, idc)] s (seqQ4 s)
      { s with sps := { s.sps with spsId := BitVec.ofNat 64 id, chromaFormatIdc := BitVec.ofNat 64 idc } }) ∧
  (∀ (s : State) (id : Nat) (plane : Bool), StreamHolds s [(.ue, id), (.ue, 3), (.f, plane.toNat)] →
    ReadsInto [(.ue, id), (.ue, 3), (.f, plane.toNat)] s (seqQ4 s)
      { s with sps := { s.sps with
          spsId := BitVec.ofNat 64 id, chromaFormatIdc := 3, separateColourPlaneFlag := plane } }) ∧
  -- Q5
  (∀ (s : State) (width height : Nat), StreamHolds s [(.ue, width), (.ue, height), (.f, 0)] →
    ReadsInto [(.ue, width), (.ue, height), (.f, 0)] s (seqQ5 s)
      { s with sps := { s.sps with
          picWidth := BitVec.ofNat 64 width, picHeight := BitVec.ofNat 64 height, conformanceWindowFlag := false } }) ∧
  (∀ (s : State) (width height left right top bottom : Nat),
    StreamHolds s [(.ue, width), (.ue, height), (.f, 1), (.ue, left), (.ue, right), (.ue, top), (.ue, bottom)] →
    ReadsInto [(.ue, width), (.ue, height), (.f, 1), (.ue, left), (.ue, right), (.ue, top), (.ue, bottom)] s (seqQ5 s)
      { s with sps := { s.sps with
          picWidth := BitVec.ofNat 64 width, picHeight := BitVec.ofNat 64 height, conformanceWindowFlag := true
          window := { left := BitVec.ofNat 64 left, right := BitVec.ofNat 64 right, top := BitVec.ofNat 64 top,
                      bottom := BitVec.ofNat 64 bottom } } }) ∧
  -- Q6
  (∀ (s : State) (luma chroma poc : Nat), StreamHolds s [(.ue, luma), (.ue, chroma), (.ue, poc)] →
    ReadsInto [(.ue, luma), (.ue, chroma), (.ue, poc)] s (seqQ6 s)
      { s with sps := { s.sps with
          bitDepthLumaMinus8 := BitVec.ofNat 64 luma, bitDepthChromaMinus8 := BitVec.ofNat 64 chroma
          log2MaxPocLsbMinus4 := BitVec.ofNat 64 poc } }) ∧
  -- Q7
  (∀ (s : State) (present : Bool) (es : List (Nat × Nat × Nat)) (fs : Fields),
    es.length = (if present then s.sps.maxSubLayersMinus1.toNat + 1 else 1) →
    fs = (.f, present.toNat) :: es.flatMap (fun e => [(.ue, e.1), (.ue, e.2.1), (.ue, e.2.2)]) → StreamHolds s fs →
    ReadsInto fs s (seqQ7 s)
      { s with
        sps := { s.sps with sloiPresentFlag := present }
        sloi := s.sloi ++ es.map fun e => ⟨BitVec.ofNat 64 e.1, BitVec.ofNat 64 e.2.1, BitVec.ofNat 64 e.2.2⟩ }) ∧
  -- Q8
  (∀ (s : State) (cbMin cbDiff tbMin tbDiff inter intra : Nat),
    StreamHolds s [(.ue, cbMin), (.ue, cbDiff), (.ue, tbMin), (.ue, tbDiff), (.ue, inter), (.ue, intra)] →
    ReadsInto [(.ue, cbMin), (.ue, cbDiff), (.ue, tbMin), (.ue, tbDiff), (.ue, inter), (.ue, intra)] s (seqQ8 s)
      { s with sps := { s.sps with
          log2MinLumaCbSizeMinus3 := BitVec.ofNat 64 cbMin, log2DiffMaxMinLumaCbSize := BitVec.ofNat 64 cbDiff
          log2MinLumaTbSizeMinus2 := BitVec.ofNat 64 tbMin, log2DiffMaxMinLumaTbSize := BitVec.ofNat 64 tbDiff
          maxTransformHierarchyDepthInter := BitVec.ofNat 64 inter
          maxTransformHierarchyDepthIntra := BitVec.ofNat 64 intra } }) ∧
  -- Q9
  (∀ s : State, StreamHolds s [(.f, 0)] →
    ReadsInto [(.f, 0)] s (seqQ9 s) { s with sps := { s.sps with scalingListEnabledFlag := false } }) ∧
  (∀ s : State, StreamHolds s [(.f, 1), (.f, 0)] →
    ReadsInto [(.f, 1), (.f, 0)] s (seqQ9 s)
      { s with sps := { s.sps with scalingListEnabledFlag := true, scalingListDataPresentFlag := false } }) ∧
  (∀ s : State, StreamHolds s [(.f, 1), (.f, 1)] →
    seqQ9 s = setSeq .q9 (scalingListSkip { s with
      pos := s.pos + 2, val := 1, seq := .q9
      sps := { s.sps with scalingListEnabledFlag := true, scalingListDataPresentFlag := true } })) ∧
  -- Q10
  (∀ (s : State) (amp sao : Bool), StreamHolds s [(.f, amp.toNat), (.f, sao.toNat), (.f, 0)] →
    ReadsInto [(.f, amp.toNat), (.f, sao.toNat), (.f, 0)] s (seqQ10 s)
      { s with sps := { s.sps with ampEnabledFlag := amp, saoEnabledFlag := sao, pcmEnabledFlag := false } }) ∧
  (∀ (s : State) (amp sao loop : Bool) (luma chroma cbMin cbDiff : Nat) (fs : Fields),
    fs = [(.f, amp.toNat), (.f, sao.toNat), (.f, 1),
      (.u 4, luma), (.u 4, chroma), (.ue, cbMin), (.ue, cbDiff), (.f, loop.toNat)] → StreamHolds s fs →
    ReadsInto fs s (seqQ10 s)
      { s with sps := { s.sps with
          ampEnabledFlag := amp, saoEnabledFlag := sao, pcmEnabledFlag := true
          pcmBitDepthLumaMinus1 := BitVec.ofNat 4 luma, pcmBitDepthChromaMinus1 := BitVec.ofNat 4 chroma
          log2MinPcmCbSizeMinus3 := BitVec.ofNat 64 cbMin, log2DiffMaxMinPcmCbSize := BitVec.ofNat 64 cbDiff
          pcmLoopFilterDisabledFlag := loop } }) ∧
  -- Q11, the count
  (∀ (s : State) (count : Nat), StreamHolds s [(.ue, count)] →
    seqQ11 s = rpsLoop count 0 { s with
      pos := s.pos + fieldsWidth [(.ue, count)], val := BitVec.ofNat 64 count, seq := .q11
      sps := { s.sps with numShortTermRefPicSets := BitVec.ofNat 64 count } }) ∧
  -- Q11, one entry of its loop, and the end of the loop
  (∀ (count : Nat) (idx : Word) (s u : State) (e : RpsEntry),
    shortTermRps idx s.sps.numShortTermRefPicSets { s with temps := { s.temps with idx := idx } } = (u, e) →
    rpsLoop (count + 1) idx s =
      if u.err = .ok then rpsLoop count (idx + 1) { u with rps := u.rps ++ [e], seq := .q11 }
      else .stop { u with rps := u.rps ++ [e], seq := .q11, result := u.err }) ∧
  (∀ (idx : Word) (s : State), rpsLoop 0 idx s = .go s) ∧
  -- Q12
  (∀ s : State, StreamHolds s [(.f, 0)] →
    ReadsInto [(.f, 0)] s (seqQ12 s) { s with sps := { s.sps with longTermRefPicsPresentFlag := false } }) ∧
  (∀ (s : State) (n : Nat) (es : List (Nat × Bool)) (fs : Fields), n = s.sps.log2MaxPocLsbMinus4.toNat + 4 → n ≤ 64 →
    fs = (.f, 1) :: (.ue, es.length) :: es.flatMap (fun e => [(.u n, e.1), (.f, e.2.toNat)]) → StreamHolds s fs →
    ReadsInto fs s (seqQ12 s) { s with sps := { s.sps with longTermRefPicsPresentFlag := true } }) ∧
  -- Q13
  (∀ (s : State) (mvp smooth : Bool), StreamHolds s [(.f, mvp.toNat), (.f, smooth.toNat), (.f, 0)] →
    ReadsInto [(.f, mvp.toNat), (.f, smooth.toNat), (.f, 0)] s (seqQ13 s)
      { s with sps := { s.sps with
          temporalMvpEnabledFlag := mvp, strongIntraSmoothingEnabledFlag := smooth
          vuiParametersPresentFlag := false } }) ∧
  (∀ (s : State) (mvp smooth : Bool), StreamHolds s [(.f, mvp.toNat), (.f, smooth.toNat), (.f, 1)] →
    seqQ13 s = setSeq .q13 (vuiParameters { s with
      pos := s.pos + 3, val := 1, seq := .q13
      sps := { s.sps with
        temporalMvpEnabledFlag := mvp, strongIntraSmoothingEnabledFlag := smooth, vuiParametersPresentFlag := true } })) ∧
  -- aspect ratio: absent, explicit, looked up (a rejected IDC is in `RejectedAspectRatio`)
  (∀ s : State, StreamHolds s [(.f, 0)] →
    ReadsInto [(.f, 0)] s (vuiAspectRatio s) { s with vui := { s.vui with aspectRatioInfoPresentFlag := false } }) ∧
  (∀ (s : State) (idc width height : Nat), BitVec.ofNat 8 idc = s.params.extendedSar →
    StreamHolds s [(.f, 1), (.u 8, idc), (.u 16, width), (.u 16, height)] →
    ReadsInto [(.f, 1), (.u 8, idc), (.u 16, width), (.u 16, height)] s (vuiAspectRatio s)
      { s with vui := { s.vui with
          aspectRatioInfoPresentFlag := true, aspectRatioIdc := BitVec.ofNat 8 idc
          sarWidth := BitVec.ofNat 16 width, sarHeight := BitVec.ofNat 16 height } }) ∧
  (∀ (s : State) (idc width height : Nat), BitVec.ofNat 8 idc ≠ s.params.extendedSar →
    lookupSar s.params (BitVec.ofNat 8 idc) = some (width, height) → StreamHolds s [(.f, 1), (.u 8, idc)] →
    ReadsInto [(.f, 1), (.u 8, idc)] s (vuiAspectRatio s)
      { s with vui := { s.vui with
          aspectRatioInfoPresentFlag := true, aspectRatioIdc := BitVec.ofNat 8 idc
          sarWidth := BitVec.ofNat 16 width, sarHeight := BitVec.ofNat 16 height } }) ∧
  -- overscan
  (∀ s : State, StreamHolds s [(.f, 0)] →
    ReadsInto [(.f, 0)] s (vuiOverscan s) { s with vui := { s.vui with overscanInfoPresentFlag := false } }) ∧
  (∀ (s : State) (appropriate : Bool), StreamHolds s [(.f, 1), (.f, appropriate.toNat)] →
    ReadsInto [(.f, 1), (.f, appropriate.toNat)] s (vuiOverscan s)
      { s with vui := { s.vui with overscanInfoPresentFlag := true, overscanAppropriateFlag := appropriate } }) ∧
  -- video signal type
  (∀ s : State, StreamHolds s [(.f, 0)] →
    ReadsInto [(.f, 0)] s (vuiVideoSignal s) { s with vui := { s.vui with videoSignalTypePresentFlag := false } }) ∧
  (∀ (s : State) (format : Nat) (range : Bool), StreamHolds s [(.f, 1), (.u 3, format), (.f, range.toNat), (.f, 0)] →
    ReadsInto [(.f, 1), (.u 3, format), (.f, range.toNat), (.f, 0)] s (vuiVideoSignal s)
      { s with vui := { s.vui with
          videoSignalTypePresentFlag := true, videoFormat := BitVec.ofNat 3 format, videoFullRangeFlag := range
          colourDescriptionPresentFlag := false } }) ∧
  (∀ (s : State) (format primaries transfer matrix : Nat) (range : Bool) (fs : Fields),
    fs = [(.f, 1), (.u 3, format), (.f, range.toNat), (.f, 1),
      (.u 8, primaries), (.u 8, transfer), (.u 8, matrix)] → StreamHolds s fs →
    ReadsInto fs s (vuiVideoSignal s)
      { s with vui := { s.vui with
          videoSignalTypePresentFlag := true, videoFormat := BitVec.ofNat 3 format, videoFullRangeFlag := range
          colourDescriptionPresentFlag := true, colourPrimaries := BitVec.ofNat 8 primaries
          transferCharacteristics := BitVec.ofNat 8 transfer, matrixCoeffs := BitVec.ofNat 8 matrix } }) ∧
  -- chroma sample location
  (∀ s : State, StreamHolds s [(.f, 0)] →
    ReadsInto [(.f, 0)] s (vuiChromaLocation s) { s with vui := { s.vui with chromaLocInfoPresentFlag := false } }) ∧
  (∀ (s : State) (top bottom : Nat), StreamHolds s [(.f, 1), (.ue, top), (.ue, bottom)] →
    ReadsInto [(.f, 1), (.ue, top), (.ue, bottom)] s (vuiChromaLocation s)
      { s with vui := { s.vui with
          chromaLocInfoPresentFlag := true, chromaSampleLocTypeTopField := BitVec.ofNat 64 top
          chromaSampleLocTypeBottomField := BitVec.ofNat 64 bottom } }) ∧
  -- neutral chroma, field and frame
  (∀ (s : State) (neutral field frame : Bool),
    StreamHolds s [(.f, neutral.toNat), (.f, field.toNat), (.f, frame.toNat)] →
    ReadsInto [(.f, neutral.toNat), (.f, field.toNat), (.f, frame.toNat)] s (vuiThreeFlags s)
      { s with vui := { s.vui with
          neutralChromaIndicationFlag := neutral, fieldSeqFlag := field, frameFieldInfoPresentFlag := frame } }) ∧
  -- default display window
  (∀ s : State, StreamHolds s [(.f, 0)] →
    ReadsInto [(.f, 0)] s (vuiDisplayWindow s) { s with vui := { s.vui with defaultDisplayWindowFlag := false } }) ∧
  (∀ (s : State) (left right top bottom : Nat),
    StreamHolds s [(.f, 1), (.ue, left), (.ue, right), (.ue, top), (.ue, bottom)] →
    ReadsInto [(.f, 1), (.ue, left), (.ue, right), (.ue, top), (.ue, bottom)] s (vuiDisplayWindow s)
      { s with vui := { s.vui with
          defaultDisplayWindowFlag := true, defDispWinLeftOffset := BitVec.ofNat 64 left
          defDispWinRightOffset := BitVec.ofNat 64 right, defDispWinTopOffset := BitVec.ofNat 64 top
          defDispWinBottomOffset := BitVec.ofNat 64 bottom } }) ∧
  -- timing info, the POC flag, the HRD flag
  (∀ s : State, StreamHolds s [(.f, 0)] →
    ReadsInto [(.f, 0)] s (vuiTiming s) { s with vui := { s.vui with timingInfoPresentFlag := false } }) ∧
  (∀ (s : State) (tick scale : Nat) (hrd : Bool),
    StreamHolds s [(.f, 1), (.u 32, tick), (.u 32, scale), (.f, 0), (.f, hrd.toNat)] →
    ReadsInto [(.f, 1), (.u 32, tick), (.u 32, scale), (.f, 0), (.f, hrd.toNat)] s (vuiTiming s)
      { s with vui := { s.vui with
          timingInfoPresentFlag := true, numUnitsInTick := BitVec.ofNat 32 tick, timeScale := BitVec.ofNat 32 scale
          pocProportionalToTimingFlag := false, hrdParametersPresentFlag := hrd } }) ∧
  (∀ (s : State) (tick scale num : Nat) (hrd : Bool) (fs : Fields),
    fs = [(.f, 1), (.u 32, tick), (.u 32, scale), (.f, 1), (.ue, num), (.f, hrd.toNat)] → StreamHolds s fs →
    ReadsInto fs s (vuiTiming s)
      { s with vui := { s.vui with
          timingInfoPresentFlag := true, numUnitsInTick := BitVec.ofNat 32 tick, timeScale := BitVec.ofNat 32 scale
          pocProportionalToTimingFlag := true, numTicksPocDiffOneMinus1 := BitVec.ofNat 64 num
          hrdParametersPresentFlag := hrd } }) ∧
  -- bitstream restrictions
  (∀ s : State, StreamHolds s [(.f, 0)] →
    ReadsInto [(.f, 0)] s (vuiRestrictionFlag s)
      { s with vui := { s.vui with bitstreamRestrictionFlag := false } }) ∧
  (∀ (s : State) (tiles vectors lists : Bool) (seg bytes bits horizontal vertical : Nat) (fs : Fields),
    fs = [(.f, 1), (.f, tiles.toNat), (.f, vectors.toNat), (.f, lists.toNat),
      (.ue, seg), (.ue, bytes), (.ue, bits), (.ue, horizontal), (.ue, vertical)] → StreamHolds s fs →
    ReadsInto fs s (vuiRestrictionFlag s)
      { s with
        vui := { s.vui with bitstreamRestrictionFlag := true }
        bsr := {
          tilesFixedStructureFlag := tiles
          motionVectorsOverPicBoundariesFlag := vectors
          restrictedRefPicListsFlag := lists
          minSpatialSegmentationIdc := BitVec.ofNat 64 seg
          maxBytesPerPicDenom := BitVec.ofNat 64 bytes
          maxBitsPerMinCuDenom := BitVec.ofNat 64 bits
          log2MaxMvLengthHorizontal := BitVec.ofNat 64 horizontal
          log2MaxMvLengthVertical := BitVec.ofNat 64 vertical } })

/-! ### GEOM -/

/-- R195, R196: the display size is the encoded size less the cropped samples, modulo `2^64`. -/
def Obligations.GeomIsModular : Prop :=
  ∀ s : State,
    let subW : Int := if s.sps.chromaFormatIdc = 1 ∨ s.sps.chromaFormatIdc = 2 then 2 else 1
    let subH : Int := if s.sps.chromaFormatIdc = 1 then 2 else 1
    ((geomDispWidth s).toNat : Int) =
      ((s.sps.picWidth.toNat : Int) - (s.sps.window.left.toNat + s.sps.window.right.toNat) * subW) % 2 ^ 64 ∧
    ((geomDispHeight s).toNat : Int) =
      ((s.sps.picHeight.toNat : Int) - (s.sps.window.top.toNat + s.sps.window.bottom.toNat) * subH) % 2 ^ 64

/-- R197: with operands below `2^33` a host that reads the output as a signed number gets the exact result. -/
def Obligations.GeomIsExactWhenSmall : Prop :=
  ∀ s : State, GeomOperandsSmall s →
    let subW : Int := if s.sps.chromaFormatIdc = 1 ∨ s.sps.chromaFormatIdc = 2 then 2 else 1
    let subH : Int := if s.sps.chromaFormatIdc = 1 then 2 else 1
    (geomDispWidth s).toInt =
      (s.sps.picWidth.toNat : Int) - (s.sps.window.left.toNat + s.sps.window.right.toNat) * subW ∧
    (geomDispHeight s).toInt =
      (s.sps.picHeight.toNat : Int) - (s.sps.window.top.toNat + s.sps.window.bottom.toNat) * subH

/-! ### Reset -/

/-- R30: the values the spec gives for reset. -/
def Obligations.ResetValues : Prop :=
  State.reset.len = 0 ∧ State.reset.pos = 0 ∧ State.reset.err = .ok ∧ State.reset.val = 0 ∧ State.reset.seq = .idle ∧
  State.reset.result = .ok ∧ State.reset.recValid = false ∧ State.reset.sps = {} ∧ State.reset.vui = {} ∧
  State.reset.bsr = {} ∧ State.reset.sloi = [] ∧ State.reset.rps = [] ∧
  geomDispWidth State.reset = 0 ∧ geomDispHeight State.reset = 0

/-- R231: commands issued straight after reset, whatever the parameters, and whatever the bytes of `BUF` and the
temporaries, to which R30 gives no value (log entries 6 and 4). -/
def Obligations.CommandsAfterReset : Prop :=
  ∀ (p : Params) (m : Memory) (x : Temps) (r : State), r = { State.reset with params := p, buf := m, temps := x } →
    (∀ n, 1 ≤ n → n ≤ 64 → exec (.rdb n) r = .next { r with err := .truncated }) ∧
    exec .rdf r = .next { r with err := .truncated } ∧ exec .rdue r = .next { r with err := .truncated } ∧
    exec .stat r = .next r ∧ exec .stat { r with err := .truncated } = .next { r with err := .truncated, val := 1 } ∧
    exec .init r = .next r ∧
    ∃ t, exec .dsps r = .next t ∧ t.err = .truncated ∧
      (classify p 0 ≠ p.spsTag → t.result = .wrongUnitType ∧ t.recValid = false)
end

