-- ==== Sys2Proof/Laws/State.lean ====
section
/-! SUPPORT. What each register write of Machine/Ops.lean does to each field of the state: one lemma per field per
update, so that no proof unfolds a record update. -/

namespace Sys2Proof.Machine

/-! ### `setPos` -/

@[simp] theorem setPos_buf (p : Nat) (s : State) : (setPos p s).buf = s.buf := rfl
@[simp] theorem setPos_len (p : Nat) (s : State) : (setPos p s).len = s.len := rfl
@[simp] theorem setPos_pos (p : Nat) (s : State) : (setPos p s).pos = p := rfl
@[simp] theorem setPos_err (p : Nat) (s : State) : (setPos p s).err = s.err := rfl
@[simp] theorem setPos_val (p : Nat) (s : State) : (setPos p s).val = s.val := rfl
@[simp] theorem setPos_seq (p : Nat) (s : State) : (setPos p s).seq = s.seq := rfl
@[simp] theorem setPos_result (p : Nat) (s : State) : (setPos p s).result = s.result := rfl
@[simp] theorem setPos_recValid (p : Nat) (s : State) : (setPos p s).recValid = s.recValid := rfl
@[simp] theorem setPos_sps (p : Nat) (s : State) : (setPos p s).sps = s.sps := rfl
@[simp] theorem setPos_sloi (p : Nat) (s : State) : (setPos p s).sloi = s.sloi := rfl
@[simp] theorem setPos_rps (p : Nat) (s : State) : (setPos p s).rps = s.rps := rfl
@[simp] theorem setPos_vui (p : Nat) (s : State) : (setPos p s).vui = s.vui := rfl
@[simp] theorem setPos_bsr (p : Nat) (s : State) : (setPos p s).bsr = s.bsr := rfl
@[simp] theorem setPos_temps (p : Nat) (s : State) : (setPos p s).temps = s.temps := rfl
@[simp] theorem setPos_params (p : Nat) (s : State) : (setPos p s).params = s.params := rfl
@[simp] theorem setPos_inputs (p : Nat) (s : State) : (setPos p s).inputs = s.inputs := rfl
@[simp] theorem setPos_freeTick (p : Nat) (s : State) : (setPos p s).freeTick = s.freeTick := rfl

/-! ### `setErr` -/

@[simp] theorem setErr_buf (e : ErrCode) (s : State) : (setErr e s).buf = s.buf := rfl
@[simp] theorem setErr_len (e : ErrCode) (s : State) : (setErr e s).len = s.len := rfl
@[simp] theorem setErr_pos (e : ErrCode) (s : State) : (setErr e s).pos = s.pos := rfl
@[simp] theorem setErr_err (e : ErrCode) (s : State) : (setErr e s).err = e := rfl
@[simp] theorem setErr_val (e : ErrCode) (s : State) : (setErr e s).val = s.val := rfl
@[simp] theorem setErr_seq (e : ErrCode) (s : State) : (setErr e s).seq = s.seq := rfl
@[simp] theorem setErr_result (e : ErrCode) (s : State) : (setErr e s).result = s.result := rfl
@[simp] theorem setErr_recValid (e : ErrCode) (s : State) : (setErr e s).recValid = s.recValid := rfl
@[simp] theorem setErr_sps (e : ErrCode) (s : State) : (setErr e s).sps = s.sps := rfl
@[simp] theorem setErr_sloi (e : ErrCode) (s : State) : (setErr e s).sloi = s.sloi := rfl
@[simp] theorem setErr_rps (e : ErrCode) (s : State) : (setErr e s).rps = s.rps := rfl
@[simp] theorem setErr_vui (e : ErrCode) (s : State) : (setErr e s).vui = s.vui := rfl
@[simp] theorem setErr_bsr (e : ErrCode) (s : State) : (setErr e s).bsr = s.bsr := rfl
@[simp] theorem setErr_temps (e : ErrCode) (s : State) : (setErr e s).temps = s.temps := rfl
@[simp] theorem setErr_params (e : ErrCode) (s : State) : (setErr e s).params = s.params := rfl
@[simp] theorem setErr_inputs (e : ErrCode) (s : State) : (setErr e s).inputs = s.inputs := rfl
@[simp] theorem setErr_freeTick (e : ErrCode) (s : State) : (setErr e s).freeTick = s.freeTick := rfl

/-! ### `setVal` -/

@[simp] theorem setVal_buf (v : Word) (s : State) : (setVal v s).buf = s.buf := rfl
@[simp] theorem setVal_len (v : Word) (s : State) : (setVal v s).len = s.len := rfl
@[simp] theorem setVal_pos (v : Word) (s : State) : (setVal v s).pos = s.pos := rfl
@[simp] theorem setVal_err (v : Word) (s : State) : (setVal v s).err = s.err := rfl
@[simp] theorem setVal_val (v : Word) (s : State) : (setVal v s).val = v := rfl
@[simp] theorem setVal_seq (v : Word) (s : State) : (setVal v s).seq = s.seq := rfl
@[simp] theorem setVal_result (v : Word) (s : State) : (setVal v s).result = s.result := rfl
@[simp] theorem setVal_recValid (v : Word) (s : State) : (setVal v s).recValid = s.recValid := rfl
@[simp] theorem setVal_sps (v : Word) (s : State) : (setVal v s).sps = s.sps := rfl
@[simp] theorem setVal_sloi (v : Word) (s : State) : (setVal v s).sloi = s.sloi := rfl
@[simp] theorem setVal_rps (v : Word) (s : State) : (setVal v s).rps = s.rps := rfl
@[simp] theorem setVal_vui (v : Word) (s : State) : (setVal v s).vui = s.vui := rfl
@[simp] theorem setVal_bsr (v : Word) (s : State) : (setVal v s).bsr = s.bsr := rfl
@[simp] theorem setVal_temps (v : Word) (s : State) : (setVal v s).temps = s.temps := rfl
@[simp] theorem setVal_params (v : Word) (s : State) : (setVal v s).params = s.params := rfl
@[simp] theorem setVal_inputs (v : Word) (s : State) : (setVal v s).inputs = s.inputs := rfl
@[simp] theorem setVal_freeTick (v : Word) (s : State) : (setVal v s).freeTick = s.freeTick := rfl

/-! ### `setBuffer` -/

@[simp] theorem setBuffer_buf (b : List Byte) (s : State) : (setBuffer b s).buf = bufferFrom 0 b := rfl
@[simp] theorem setBuffer_len (b : List Byte) (s : State) : (setBuffer b s).len = b.length := rfl
@[simp] theorem setBuffer_pos (b : List Byte) (s : State) : (setBuffer b s).pos = s.pos := rfl
@[simp] theorem setBuffer_err (b : List Byte) (s : State) : (setBuffer b s).err = s.err := rfl
@[simp] theorem setBuffer_val (b : List Byte) (s : State) : (setBuffer b s).val = s.val := rfl
@[simp] theorem setBuffer_seq (b : List Byte) (s : State) : (setBuffer b s).seq = s.seq := rfl
@[simp] theorem setBuffer_result (b : List Byte) (s : State) : (setBuffer b s).result = s.result := rfl
@[simp] theorem setBuffer_recValid (b : List Byte) (s : State) : (setBuffer b s).recValid = s.recValid := rfl
@[simp] theorem setBuffer_sps (b : List Byte) (s : State) : (setBuffer b s).sps = s.sps := rfl
@[simp] theorem setBuffer_sloi (b : List Byte) (s : State) : (setBuffer b s).sloi = s.sloi := rfl
@[simp] theorem setBuffer_rps (b : List Byte) (s : State) : (setBuffer b s).rps = s.rps := rfl
@[simp] theorem setBuffer_vui (b : List Byte) (s : State) : (setBuffer b s).vui = s.vui := rfl
@[simp] theorem setBuffer_bsr (b : List Byte) (s : State) : (setBuffer b s).bsr = s.bsr := rfl
@[simp] theorem setBuffer_temps (b : List Byte) (s : State) : (setBuffer b s).temps = s.temps := rfl
@[simp] theorem setBuffer_params (b : List Byte) (s : State) : (setBuffer b s).params = s.params := rfl
@[simp] theorem setBuffer_inputs (b : List Byte) (s : State) : (setBuffer b s).inputs = s.inputs := rfl
@[simp] theorem setBuffer_freeTick (b : List Byte) (s : State) : (setBuffer b s).freeTick = s.freeTick := rfl

/-! ### `setSeq` -/

@[simp] theorem setSeq_buf (q : Seq) (s : State) : (setSeq q s).buf = s.buf := rfl
@[simp] theorem setSeq_len (q : Seq) (s : State) : (setSeq q s).len = s.len := rfl
@[simp] theorem setSeq_pos (q : Seq) (s : State) : (setSeq q s).pos = s.pos := rfl
@[simp] theorem setSeq_err (q : Seq) (s : State) : (setSeq q s).err = s.err := rfl
@[simp] theorem setSeq_val (q : Seq) (s : State) : (setSeq q s).val = s.val := rfl
@[simp] theorem setSeq_seq (q : Seq) (s : State) : (setSeq q s).seq = q := rfl
@[simp] theorem setSeq_result (q : Seq) (s : State) : (setSeq q s).result = s.result := rfl
@[simp] theorem setSeq_recValid (q : Seq) (s : State) : (setSeq q s).recValid = s.recValid := rfl
@[simp] theorem setSeq_sps (q : Seq) (s : State) : (setSeq q s).sps = s.sps := rfl
@[simp] theorem setSeq_sloi (q : Seq) (s : State) : (setSeq q s).sloi = s.sloi := rfl
@[simp] theorem setSeq_rps (q : Seq) (s : State) : (setSeq q s).rps = s.rps := rfl
@[simp] theorem setSeq_vui (q : Seq) (s : State) : (setSeq q s).vui = s.vui := rfl
@[simp] theorem setSeq_bsr (q : Seq) (s : State) : (setSeq q s).bsr = s.bsr := rfl
@[simp] theorem setSeq_temps (q : Seq) (s : State) : (setSeq q s).temps = s.temps := rfl
@[simp] theorem setSeq_params (q : Seq) (s : State) : (setSeq q s).params = s.params := rfl
@[simp] theorem setSeq_inputs (q : Seq) (s : State) : (setSeq q s).inputs = s.inputs := rfl
@[simp] theorem setSeq_freeTick (q : Seq) (s : State) : (setSeq q s).freeTick = s.freeTick := rfl

/-! ### `setResult` -/

@[simp] theorem setResult_buf (e : ErrCode) (s : State) : (setResult e s).buf = s.buf := rfl
@[simp] theorem setResult_len (e : ErrCode) (s : State) : (setResult e s).len = s.len := rfl
@[simp] theorem setResult_pos (e : ErrCode) (s : State) : (setResult e s).pos = s.pos := rfl
@[simp] theorem setResult_err (e : ErrCode) (s : State) : (setResult e s).err = s.err := rfl
@[simp] theorem setResult_val (e : ErrCode) (s : State) : (setResult e s).val = s.val := rfl
@[simp] theorem setResult_seq (e : ErrCode) (s : State) : (setResult e s).seq = s.seq := rfl
@[simp] theorem setResult_result (e : ErrCode) (s : State) : (setResult e s).result = e := rfl
@[simp] theorem setResult_recValid (e : ErrCode) (s : State) : (setResult e s).recValid = s.recValid := rfl
@[simp] theorem setResult_sps (e : ErrCode) (s : State) : (setResult e s).sps = s.sps := rfl
@[simp] theorem setResult_sloi (e : ErrCode) (s : State) : (setResult e s).sloi = s.sloi := rfl
@[simp] theorem setResult_rps (e : ErrCode) (s : State) : (setResult e s).rps = s.rps := rfl
@[simp] theorem setResult_vui (e : ErrCode) (s : State) : (setResult e s).vui = s.vui := rfl
@[simp] theorem setResult_bsr (e : ErrCode) (s : State) : (setResult e s).bsr = s.bsr := rfl
@[simp] theorem setResult_temps (e : ErrCode) (s : State) : (setResult e s).temps = s.temps := rfl
@[simp] theorem setResult_params (e : ErrCode) (s : State) : (setResult e s).params = s.params := rfl
@[simp] theorem setResult_inputs (e : ErrCode) (s : State) : (setResult e s).inputs = s.inputs := rfl
@[simp] theorem setResult_freeTick (e : ErrCode) (s : State) : (setResult e s).freeTick = s.freeTick := rfl

/-! ### `setRecValid` -/

@[simp] theorem setRecValid_buf (b : Bool) (s : State) : (setRecValid b s).buf = s.buf := rfl
@[simp] theorem setRecValid_len (b : Bool) (s : State) : (setRecValid b s).len = s.len := rfl
@[simp] theorem setRecValid_pos (b : Bool) (s : State) : (setRecValid b s).pos = s.pos := rfl
@[simp] theorem setRecValid_err (b : Bool) (s : State) : (setRecValid b s).err = s.err := rfl
@[simp] theorem setRecValid_val (b : Bool) (s : State) : (setRecValid b s).val = s.val := rfl
@[simp] theorem setRecValid_seq (b : Bool) (s : State) : (setRecValid b s).seq = s.seq := rfl
@[simp] theorem setRecValid_result (b : Bool) (s : State) : (setRecValid b s).result = s.result := rfl
@[simp] theorem setRecValid_recValid (b : Bool) (s : State) : (setRecValid b s).recValid = b := rfl
@[simp] theorem setRecValid_sps (b : Bool) (s : State) : (setRecValid b s).sps = s.sps := rfl
@[simp] theorem setRecValid_sloi (b : Bool) (s : State) : (setRecValid b s).sloi = s.sloi := rfl
@[simp] theorem setRecValid_rps (b : Bool) (s : State) : (setRecValid b s).rps = s.rps := rfl
@[simp] theorem setRecValid_vui (b : Bool) (s : State) : (setRecValid b s).vui = s.vui := rfl
@[simp] theorem setRecValid_bsr (b : Bool) (s : State) : (setRecValid b s).bsr = s.bsr := rfl
@[simp] theorem setRecValid_temps (b : Bool) (s : State) : (setRecValid b s).temps = s.temps := rfl
@[simp] theorem setRecValid_params (b : Bool) (s : State) : (setRecValid b s).params = s.params := rfl
@[simp] theorem setRecValid_inputs (b : Bool) (s : State) : (setRecValid b s).inputs = s.inputs := rfl
@[simp] theorem setRecValid_freeTick (b : Bool) (s : State) : (setRecValid b s).freeTick = s.freeTick := rfl

/-! ### `setSps` -/

@[simp] theorem setSps_buf (r : SpsRecord) (s : State) : (setSps r s).buf = s.buf := rfl
@[simp] theorem setSps_len (r : SpsRecord) (s : State) : (setSps r s).len = s.len := rfl
@[simp] theorem setSps_pos (r : SpsRecord) (s : State) : (setSps r s).pos = s.pos := rfl
@[simp] theorem setSps_err (r : SpsRecord) (s : State) : (setSps r s).err = s.err := rfl
@[simp] theorem setSps_val (r : SpsRecord) (s : State) : (setSps r s).val = s.val := rfl
@[simp] theorem setSps_seq (r : SpsRecord) (s : State) : (setSps r s).seq = s.seq := rfl
@[simp] theorem setSps_result (r : SpsRecord) (s : State) : (setSps r s).result = s.result := rfl
@[simp] theorem setSps_recValid (r : SpsRecord) (s : State) : (setSps r s).recValid = s.recValid := rfl
@[simp] theorem setSps_sps (r : SpsRecord) (s : State) : (setSps r s).sps = r := rfl
@[simp] theorem setSps_sloi (r : SpsRecord) (s : State) : (setSps r s).sloi = s.sloi := rfl
@[simp] theorem setSps_rps (r : SpsRecord) (s : State) : (setSps r s).rps = s.rps := rfl
@[simp] theorem setSps_vui (r : SpsRecord) (s : State) : (setSps r s).vui = s.vui := rfl
@[simp] theorem setSps_bsr (r : SpsRecord) (s : State) : (setSps r s).bsr = s.bsr := rfl
@[simp] theorem setSps_temps (r : SpsRecord) (s : State) : (setSps r s).temps = s.temps := rfl
@[simp] theorem setSps_params (r : SpsRecord) (s : State) : (setSps r s).params = s.params := rfl
@[simp] theorem setSps_inputs (r : SpsRecord) (s : State) : (setSps r s).inputs = s.inputs := rfl
@[simp] theorem setSps_freeTick (r : SpsRecord) (s : State) : (setSps r s).freeTick = s.freeTick := rfl

/-! ### `setVui` -/

@[simp] theorem setVui_buf (r : VuiRecord) (s : State) : (setVui r s).buf = s.buf := rfl
@[simp] theorem setVui_len (r : VuiRecord) (s : State) : (setVui r s).len = s.len := rfl
@[simp] theorem setVui_pos (r : VuiRecord) (s : State) : (setVui r s).pos = s.pos := rfl
@[simp] theorem setVui_err (r : VuiRecord) (s : State) : (setVui r s).err = s.err := rfl
@[simp] theorem setVui_val (r : VuiRecord) (s : State) : (setVui r s).val = s.val := rfl
@[simp] theorem setVui_seq (r : VuiRecord) (s : State) : (setVui r s).seq = s.seq := rfl
@[simp] theorem setVui_result (r : VuiRecord) (s : State) : (setVui r s).result = s.result := rfl
@[simp] theorem setVui_recValid (r : VuiRecord) (s : State) : (setVui r s).recValid = s.recValid := rfl
@[simp] theorem setVui_sps (r : VuiRecord) (s : State) : (setVui r s).sps = s.sps := rfl
@[simp] theorem setVui_sloi (r : VuiRecord) (s : State) : (setVui r s).sloi = s.sloi := rfl
@[simp] theorem setVui_rps (r : VuiRecord) (s : State) : (setVui r s).rps = s.rps := rfl
@[simp] theorem setVui_vui (r : VuiRecord) (s : State) : (setVui r s).vui = r := rfl
@[simp] theorem setVui_bsr (r : VuiRecord) (s : State) : (setVui r s).bsr = s.bsr := rfl
@[simp] theorem setVui_temps (r : VuiRecord) (s : State) : (setVui r s).temps = s.temps := rfl
@[simp] theorem setVui_params (r : VuiRecord) (s : State) : (setVui r s).params = s.params := rfl
@[simp] theorem setVui_inputs (r : VuiRecord) (s : State) : (setVui r s).inputs = s.inputs := rfl
@[simp] theorem setVui_freeTick (r : VuiRecord) (s : State) : (setVui r s).freeTick = s.freeTick := rfl

/-! ### `setBsr` -/

@[simp] theorem setBsr_buf (r : BsrRecord) (s : State) : (setBsr r s).buf = s.buf := rfl
@[simp] theorem setBsr_len (r : BsrRecord) (s : State) : (setBsr r s).len = s.len := rfl
@[simp] theorem setBsr_pos (r : BsrRecord) (s : State) : (setBsr r s).pos = s.pos := rfl
@[simp] theorem setBsr_err (r : BsrRecord) (s : State) : (setBsr r s).err = s.err := rfl
@[simp] theorem setBsr_val (r : BsrRecord) (s : State) : (setBsr r s).val = s.val := rfl
@[simp] theorem setBsr_seq (r : BsrRecord) (s : State) : (setBsr r s).seq = s.seq := rfl
@[simp] theorem setBsr_result (r : BsrRecord) (s : State) : (setBsr r s).result = s.result := rfl
@[simp] theorem setBsr_recValid (r : BsrRecord) (s : State) : (setBsr r s).recValid = s.recValid := rfl
@[simp] theorem setBsr_sps (r : BsrRecord) (s : State) : (setBsr r s).sps = s.sps := rfl
@[simp] theorem setBsr_sloi (r : BsrRecord) (s : State) : (setBsr r s).sloi = s.sloi := rfl
@[simp] theorem setBsr_rps (r : BsrRecord) (s : State) : (setBsr r s).rps = s.rps := rfl
@[simp] theorem setBsr_vui (r : BsrRecord) (s : State) : (setBsr r s).vui = s.vui := rfl
@[simp] theorem setBsr_bsr (r : BsrRecord) (s : State) : (setBsr r s).bsr = r := rfl
@[simp] theorem setBsr_temps (r : BsrRecord) (s : State) : (setBsr r s).temps = s.temps := rfl
@[simp] theorem setBsr_params (r : BsrRecord) (s : State) : (setBsr r s).params = s.params := rfl
@[simp] theorem setBsr_inputs (r : BsrRecord) (s : State) : (setBsr r s).inputs = s.inputs := rfl
@[simp] theorem setBsr_freeTick (r : BsrRecord) (s : State) : (setBsr r s).freeTick = s.freeTick := rfl

/-! ### `pushSloi` -/

@[simp] theorem pushSloi_buf (e : SloiEntry) (s : State) : (pushSloi e s).buf = s.buf := rfl
@[simp] theorem pushSloi_len (e : SloiEntry) (s : State) : (pushSloi e s).len = s.len := rfl
@[simp] theorem pushSloi_pos (e : SloiEntry) (s : State) : (pushSloi e s).pos = s.pos := rfl
@[simp] theorem pushSloi_err (e : SloiEntry) (s : State) : (pushSloi e s).err = s.err := rfl
@[simp] theorem pushSloi_val (e : SloiEntry) (s : State) : (pushSloi e s).val = s.val := rfl
@[simp] theorem pushSloi_seq (e : SloiEntry) (s : State) : (pushSloi e s).seq = s.seq := rfl
@[simp] theorem pushSloi_result (e : SloiEntry) (s : State) : (pushSloi e s).result = s.result := rfl
@[simp] theorem pushSloi_recValid (e : SloiEntry) (s : State) : (pushSloi e s).recValid = s.recValid := rfl
@[simp] theorem pushSloi_sps (e : SloiEntry) (s : State) : (pushSloi e s).sps = s.sps := rfl
@[simp] theorem pushSloi_sloi (e : SloiEntry) (s : State) : (pushSloi e s).sloi = s.sloi ++ [e] := rfl
@[simp] theorem pushSloi_rps (e : SloiEntry) (s : State) : (pushSloi e s).rps = s.rps := rfl
@[simp] theorem pushSloi_vui (e : SloiEntry) (s : State) : (pushSloi e s).vui = s.vui := rfl
@[simp] theorem pushSloi_bsr (e : SloiEntry) (s : State) : (pushSloi e s).bsr = s.bsr := rfl
@[simp] theorem pushSloi_temps (e : SloiEntry) (s : State) : (pushSloi e s).temps = s.temps := rfl
@[simp] theorem pushSloi_params (e : SloiEntry) (s : State) : (pushSloi e s).params = s.params := rfl
@[simp] theorem pushSloi_inputs (e : SloiEntry) (s : State) : (pushSloi e s).inputs = s.inputs := rfl
@[simp] theorem pushSloi_freeTick (e : SloiEntry) (s : State) : (pushSloi e s).freeTick = s.freeTick := rfl

/-! ### `pushRps` -/

@[simp] theorem pushRps_buf (e : RpsEntry) (s : State) : (pushRps e s).buf = s.buf := rfl
@[simp] theorem pushRps_len (e : RpsEntry) (s : State) : (pushRps e s).len = s.len := rfl
@[simp] theorem pushRps_pos (e : RpsEntry) (s : State) : (pushRps e s).pos = s.pos := rfl
@[simp] theorem pushRps_err (e : RpsEntry) (s : State) : (pushRps e s).err = s.err := rfl
@[simp] theorem pushRps_val (e : RpsEntry) (s : State) : (pushRps e s).val = s.val := rfl
@[simp] theorem pushRps_seq (e : RpsEntry) (s : State) : (pushRps e s).seq = s.seq := rfl
@[simp] theorem pushRps_result (e : RpsEntry) (s : State) : (pushRps e s).result = s.result := rfl
@[simp] theorem pushRps_recValid (e : RpsEntry) (s : State) : (pushRps e s).recValid = s.recValid := rfl
@[simp] theorem pushRps_sps (e : RpsEntry) (s : State) : (pushRps e s).sps = s.sps := rfl
@[simp] theorem pushRps_sloi (e : RpsEntry) (s : State) : (pushRps e s).sloi = s.sloi := rfl
@[simp] theorem pushRps_rps (e : RpsEntry) (s : State) : (pushRps e s).rps = s.rps ++ [e] := rfl
@[simp] theorem pushRps_vui (e : RpsEntry) (s : State) : (pushRps e s).vui = s.vui := rfl
@[simp] theorem pushRps_bsr (e : RpsEntry) (s : State) : (pushRps e s).bsr = s.bsr := rfl
@[simp] theorem pushRps_temps (e : RpsEntry) (s : State) : (pushRps e s).temps = s.temps := rfl
@[simp] theorem pushRps_params (e : RpsEntry) (s : State) : (pushRps e s).params = s.params := rfl
@[simp] theorem pushRps_inputs (e : RpsEntry) (s : State) : (pushRps e s).inputs = s.inputs := rfl
@[simp] theorem pushRps_freeTick (e : RpsEntry) (s : State) : (pushRps e s).freeTick = s.freeTick := rfl

/-! ### `setTemps` -/

@[simp] theorem setTemps_buf (t : Temps) (s : State) : (setTemps t s).buf = s.buf := rfl
@[simp] theorem setTemps_len (t : Temps) (s : State) : (setTemps t s).len = s.len := rfl
@[simp] theorem setTemps_pos (t : Temps) (s : State) : (setTemps t s).pos = s.pos := rfl
@[simp] theorem setTemps_err (t : Temps) (s : State) : (setTemps t s).err = s.err := rfl
@[simp] theorem setTemps_val (t : Temps) (s : State) : (setTemps t s).val = s.val := rfl
@[simp] theorem setTemps_seq (t : Temps) (s : State) : (setTemps t s).seq = s.seq := rfl
@[simp] theorem setTemps_result (t : Temps) (s : State) : (setTemps t s).result = s.result := rfl
@[simp] theorem setTemps_recValid (t : Temps) (s : State) : (setTemps t s).recValid = s.recValid := rfl
@[simp] theorem setTemps_sps (t : Temps) (s : State) : (setTemps t s).sps = s.sps := rfl
@[simp] theorem setTemps_sloi (t : Temps) (s : State) : (setTemps t s).sloi = s.sloi := rfl
@[simp] theorem setTemps_rps (t : Temps) (s : State) : (setTemps t s).rps = s.rps := rfl
@[simp] theorem setTemps_vui (t : Temps) (s : State) : (setTemps t s).vui = s.vui := rfl
@[simp] theorem setTemps_bsr (t : Temps) (s : State) : (setTemps t s).bsr = s.bsr := rfl
@[simp] theorem setTemps_temps (t : Temps) (s : State) : (setTemps t s).temps = t := rfl
@[simp] theorem setTemps_params (t : Temps) (s : State) : (setTemps t s).params = s.params := rfl
@[simp] theorem setTemps_inputs (t : Temps) (s : State) : (setTemps t s).inputs = s.inputs := rfl
@[simp] theorem setTemps_freeTick (t : Temps) (s : State) : (setTemps t s).freeTick = s.freeTick := rfl

/-! ### `clearRecord` -/

@[simp] theorem clearRecord_buf (s : State) : (clearRecord s).buf = s.buf := rfl
@[simp] theorem clearRecord_len (s : State) : (clearRecord s).len = s.len := rfl
@[simp] theorem clearRecord_pos (s : State) : (clearRecord s).pos = s.pos := rfl
@[simp] theorem clearRecord_err (s : State) : (clearRecord s).err = s.err := rfl
@[simp] theorem clearRecord_val (s : State) : (clearRecord s).val = s.val := rfl
@[simp] theorem clearRecord_seq (s : State) : (clearRecord s).seq = s.seq := rfl
@[simp] theorem clearRecord_result (s : State) : (clearRecord s).result = .ok := rfl
@[simp] theorem clearRecord_recValid (s : State) : (clearRecord s).recValid = false := rfl
@[simp] theorem clearRecord_sps (s : State) : (clearRecord s).sps = {} := rfl
@[simp] theorem clearRecord_sloi (s : State) : (clearRecord s).sloi = [] := rfl
@[simp] theorem clearRecord_rps (s : State) : (clearRecord s).rps = [] := rfl
@[simp] theorem clearRecord_vui (s : State) : (clearRecord s).vui = {} := rfl
@[simp] theorem clearRecord_bsr (s : State) : (clearRecord s).bsr = {} := rfl
@[simp] theorem clearRecord_temps (s : State) : (clearRecord s).temps = {} := rfl
@[simp] theorem clearRecord_params (s : State) : (clearRecord s).params = s.params := rfl
@[simp] theorem clearRecord_inputs (s : State) : (clearRecord s).inputs = s.inputs := rfl
@[simp] theorem clearRecord_freeTick (s : State) : (clearRecord s).freeTick = s.freeTick := rfl

/-! ### `freeTheTemps` -/

@[simp] theorem freeTheTemps_buf (s : State) : (freeTheTemps s).buf = s.buf := rfl
@[simp] theorem freeTheTemps_len (s : State) : (freeTheTemps s).len = s.len := rfl
@[simp] theorem freeTheTemps_pos (s : State) : (freeTheTemps s).pos = s.pos := rfl
@[simp] theorem freeTheTemps_err (s : State) : (freeTheTemps s).err = s.err := rfl
@[simp] theorem freeTheTemps_val (s : State) : (freeTheTemps s).val = s.val := rfl
@[simp] theorem freeTheTemps_seq (s : State) : (freeTheTemps s).seq = s.seq := rfl
@[simp] theorem freeTheTemps_result (s : State) : (freeTheTemps s).result = s.result := rfl
@[simp] theorem freeTheTemps_recValid (s : State) : (freeTheTemps s).recValid = s.recValid := rfl
@[simp] theorem freeTheTemps_sps (s : State) : (freeTheTemps s).sps = s.sps := rfl
@[simp] theorem freeTheTemps_sloi (s : State) : (freeTheTemps s).sloi = s.sloi := rfl
@[simp] theorem freeTheTemps_rps (s : State) : (freeTheTemps s).rps = s.rps := rfl
@[simp] theorem freeTheTemps_vui (s : State) : (freeTheTemps s).vui = s.vui := rfl
@[simp] theorem freeTheTemps_bsr (s : State) : (freeTheTemps s).bsr = s.bsr := rfl
@[simp] theorem freeTheTemps_temps (s : State) : (freeTheTemps s).temps = Config.freeTemps s.freeTick := rfl
@[simp] theorem freeTheTemps_params (s : State) : (freeTheTemps s).params = s.params := rfl
@[simp] theorem freeTheTemps_inputs (s : State) : (freeTheTemps s).inputs = s.inputs := rfl
@[simp] theorem freeTheTemps_freeTick (s : State) : (freeTheTemps s).freeTick = s.freeTick + 1 := rfl

end Sys2Proof.Machine
end

