-- ==== Sys2Proof/Laws/Cursor.lean ====
section
/-! SUPPORT. What the cursor operations can do: one lemma per case, and what each leaves alone. Later proofs cite
these and do not unfold the operations. -/

namespace Sys2Proof.Machine

/-! ### The latch -/

theorem failed_iff (s : State) : failed s = true ↔ s.err ≠ .ok := by simp [failed]

theorem not_failed_iff (s : State) : failed s = false ↔ s.err = .ok := by simp [failed]

/-- The first error wins (R203). -/
theorem latch_err (e : ErrCode) (s : State) : (latch e s).err = if s.err = .ok then e else s.err := by
  unfold latch; split <;> simp

/-- Latching changes `ERR` and nothing else. -/
theorem latch_eq (e : ErrCode) (s : State) : latch e s = { s with err := (latch e s).err } := by
  unfold latch; split <;> rfl

/-- Taking an error changes `ERR` and `VAL` and nothing else (R204). -/
theorem takeError_eq (e : ErrCode) (s : State) :
    takeError e s = { s with err := if s.err = .ok then e else s.err, val := 0 } := by
  unfold takeError; rw [latch_eq, latch_err]; rfl

theorem takeError_of_ok {e : ErrCode} {s : State} (h : s.err = .ok) : takeError e s = { s with err := e, val := 0 } := by
  rw [takeError_eq, if_pos h]

/-! ### The fixed-width read -/

theorem readBits_latched {n : Nat} {s : State} (h : s.err ≠ .ok) : readBits n s = { s with val := 0 } := by
  unfold readBits; rw [if_pos ((failed_iff s).2 h)]; rfl

theorem readBits_truncated {n : Nat} {s : State} (h : s.err = .ok) (hn : streamEnd s - s.pos < n) :
    readBits n s = { s with err := .truncated, val := 0 } := by
  unfold readBits
  rw [if_neg (by simp [failed, h]), if_pos (by simp [tooFewBits, hn]), takeError_of_ok h]

theorem readBits_ok {n : Nat} {s : State} (h : s.err = .ok) (hn : n ≤ streamEnd s - s.pos) :
    readBits n s = { s with val := BitVec.ofNat 64 (streamBits s.buf s.pos n), pos := s.pos + n } := by
  unfold readBits
  rw [if_neg (by simp [failed, h]), if_neg (by simp [tooFewBits, hn])]; rfl

/-- Everything a fixed-width read can do. -/
theorem readBits_cases (n : Nat) (s : State) :
    (s.err ≠ .ok ∧ readBits n s = { s with val := 0 }) ∨
    (s.err = .ok ∧ streamEnd s - s.pos < n ∧ readBits n s = { s with err := .truncated, val := 0 }) ∨
    (s.err = .ok ∧ n ≤ streamEnd s - s.pos ∧
      readBits n s = { s with val := BitVec.ofNat 64 (streamBits s.buf s.pos n), pos := s.pos + n }) := by
  by_cases h : s.err = .ok
  · rcases Nat.lt_or_ge (streamEnd s - s.pos) n with hn | hn
    · exact .inr (.inl ⟨h, hn, readBits_truncated h hn⟩)
    · exact .inr (.inr ⟨h, hn, readBits_ok h hn⟩)
  · exact .inl ⟨h, readBits_latched h⟩

/-! ### The Exp-Golomb read -/

/-- What the scan answers when it finds the terminator: `n` zeros, then a one, all before `last`. -/
theorem scanZeros_terminated {m : Memory} {last spare p lz lz' next : Nat}
    (h : scanZeros m last spare p lz = .terminated lz' next) :
    ∃ n, lz' = lz + n ∧ n < spare ∧ next = p + n + 1 ∧ next ≤ last ∧
      (∀ i < n, streamBit m (p + i) = false) ∧ streamBit m (p + n) = true := by
  induction spare generalizing p lz with
  | zero => simp [scanZeros] at h
  | succ spare ih =>
    unfold scanZeros at h
    split at h
    · simp at h
    · split at h
      · simp only [ZeroRun.terminated.injEq] at h
        exact ⟨0, by omega, by omega, by omega, by omega, by simp, by simpa⟩
      · obtain ⟨n, h1, h2, h3, h4, h5, h6⟩ := ih h
        refine ⟨n + 1, by omega, by omega, by omega, by omega, ?_, ?_⟩
        · intro i hi
          cases i with
          | zero => simpa using ‹¬ _ = true›
          | succ i => have := h5 i (by omega); rwa [show p + 1 + i = p + (i + 1) by omega] at this
        · rwa [show p + 1 + n = p + (n + 1) by omega] at h6

/-- The scan finds `n` zeros and a one, if they are there and `n` does not exceed the bound. -/
theorem scanZeros_eq_terminated {m : Memory} {last n spare p lz : Nat} (hn : n < spare) (hl : p + n < last)
    (hz : ∀ i < n, streamBit m (p + i) = false) (h1 : streamBit m (p + n) = true) :
    scanZeros m last spare p lz = .terminated (lz + n) (p + n + 1) := by
  induction n generalizing spare p lz with
  | zero =>
    obtain ⟨k, rfl⟩ : ∃ k, spare = k + 1 := ⟨spare - 1, by omega⟩
    unfold scanZeros
    rw [if_neg (by omega), if_pos (by simpa using h1)]; rfl
  | succ n ih =>
    obtain ⟨k, rfl⟩ : ∃ k, spare = k + 1 := ⟨spare - 1, by omega⟩
    unfold scanZeros
    rw [if_neg (by omega), if_neg (by simpa using hz 0 (by omega)),
      ih (by omega) (by omega) (fun i hi => by simpa [Nat.add_assoc, Nat.add_comm 1] using hz (i + 1) (by omega))
        (by simpa [Nat.add_assoc, Nat.add_comm 1] using h1)]
    congr 1 <;> omega

/-- Everything an Exp-Golomb read can do. -/
theorem readUe_cases (s : State) :
    (s.err ≠ .ok ∧ readUe s = { s with val := 0 }) ∨
    (s.err = .ok ∧ ∃ e, (e = .truncated ∨ e = .malformed) ∧ readUe s = { s with err := e, val := 0 }) ∨
    (s.err = .ok ∧ ∃ lz, lz ≤ Config.maxLz ∧ s.pos + 2 * lz + 1 ≤ streamEnd s ∧
      readUe s = { s with val := BitVec.ofNat 64 (ueValue s.buf (s.pos + lz + 1) lz), pos := s.pos + 2 * lz + 1 }) := by
  by_cases h : s.err = .ok
  · refine .inr ?_
    unfold readUe
    rw [if_neg (by simp [failed, h])]
    split
    · exact .inl ⟨h, .truncated, .inl rfl, takeError_of_ok h⟩
    · exact .inl ⟨h, .malformed, .inr rfl, takeError_of_ok h⟩
    · rename_i lz p heq
      obtain ⟨n, h1, h2, h3, h4, -, -⟩ := scanZeros_terminated heq
      obtain rfl : lz = n := by omega
      subst h3
      split
      · exact .inl ⟨h, .truncated, .inl rfl, takeError_of_ok h⟩
      · rename_i hb
        simp only [tooFewBits, decide_eq_true_eq, Nat.not_lt] at hb
        refine .inr ⟨h, lz, by omega, by omega, ?_⟩
        have : s.pos + lz + 1 + lz = s.pos + 2 * lz + 1 := by omega
        simp only [this]; rfl
  · exact .inl ⟨h, by unfold readUe; rw [if_pos ((failed_iff s).2 h)]; rfl⟩

/-! ### A read of any kind -/

/-- Everything a field read can do: `VAL <- 0` with the latch set; an error, nothing consumed; or a value, the cursor
advanced inside the stream. -/
theorem readField_cases (k : FieldKind) (s : State) :
    (s.err ≠ .ok ∧ readField k s = { s with val := 0 }) ∨
    (s.err = .ok ∧ ∃ e, (e = .truncated ∨ e = .malformed) ∧ readField k s = { s with err := e, val := 0 }) ∨
    (s.err = .ok ∧ ∃ v p, s.pos ≤ p ∧ (s.pos ≤ streamEnd s → p ≤ streamEnd s) ∧
      readField k s = { s with val := v, pos := p }) := by
  have fixed : ∀ n, (s.err ≠ .ok ∧ readBits n s = { s with val := 0 }) ∨
      (s.err = .ok ∧ ∃ e, (e = .truncated ∨ e = .malformed) ∧ readBits n s = { s with err := e, val := 0 }) ∨
      (s.err = .ok ∧ ∃ v p, s.pos ≤ p ∧ (s.pos ≤ streamEnd s → p ≤ streamEnd s) ∧
        readBits n s = { s with val := v, pos := p }) := fun n => by
    rcases readBits_cases n s with h | ⟨h, -, e⟩ | ⟨h, hn, e⟩
    · exact .inl h
    · exact .inr (.inl ⟨h, .truncated, .inl rfl, e⟩)
    · exact .inr (.inr ⟨h, _, _, Nat.le_add_right _ _, fun _ => by omega, e⟩)
  cases k with
  | u n => exact fixed n
  | f => exact fixed 1
  | ue =>
    rcases readUe_cases s with h | h | ⟨h, lz, -, hp, e⟩
    · exact .inl h
    · exact .inr (.inl h)
    · exact .inr (.inr ⟨h, _, _, by omega, fun _ => hp, e⟩)

/-- A field read changes `POS`, `ERR` and `VAL` only (R27). -/
theorem readField_eq (k : FieldKind) (s : State) :
    readField k s =
      { s with pos := (readField k s).pos, err := (readField k s).err, val := (readField k s).val } := by
  rcases readField_cases k s with ⟨-, e⟩ | ⟨-, _, -, e⟩ | ⟨-, _, _, -, -, e⟩ <;> rw [e]

theorem readField_latched {k : FieldKind} {s : State} (h : s.err ≠ .ok) : readField k s = { s with val := 0 } := by
  rcases readField_cases k s with ⟨-, e⟩ | ⟨h', -⟩ | ⟨h', -⟩
  · exact e
  · exact absurd h' h
  · exact absurd h' h

/-- After a field read that leaves the latch set, the value is 0 (R90, R93). -/
theorem readField_val_of_err {k : FieldKind} {s : State} (h : (readField k s).err ≠ .ok) : (readField k s).val = 0 := by
  rcases readField_cases k s with ⟨-, e⟩ | ⟨-, _, -, e⟩ | ⟨h', _, _, -, -, e⟩
  · rw [e]
  · rw [e]
  · rw [e] at h; exact absurd h' h

@[simp] theorem readField_buf (k : FieldKind) (s : State) : (readField k s).buf = s.buf := by rw [readField_eq]
@[simp] theorem readField_len (k : FieldKind) (s : State) : (readField k s).len = s.len := by rw [readField_eq]
@[simp] theorem readField_seq (k : FieldKind) (s : State) : (readField k s).seq = s.seq := by rw [readField_eq]
@[simp] theorem readField_result (k : FieldKind) (s : State) : (readField k s).result = s.result := by rw [readField_eq]
@[simp] theorem readField_recValid (k : FieldKind) (s : State) : (readField k s).recValid = s.recValid := by rw [readField_eq]
@[simp] theorem readField_sps (k : FieldKind) (s : State) : (readField k s).sps = s.sps := by rw [readField_eq]
@[simp] theorem readField_sloi (k : FieldKind) (s : State) : (readField k s).sloi = s.sloi := by rw [readField_eq]
@[simp] theorem readField_rps (k : FieldKind) (s : State) : (readField k s).rps = s.rps := by rw [readField_eq]
@[simp] theorem readField_vui (k : FieldKind) (s : State) : (readField k s).vui = s.vui := by rw [readField_eq]
@[simp] theorem readField_bsr (k : FieldKind) (s : State) : (readField k s).bsr = s.bsr := by rw [readField_eq]
@[simp] theorem readField_temps (k : FieldKind) (s : State) : (readField k s).temps = s.temps := by rw [readField_eq]
@[simp] theorem readField_params (k : FieldKind) (s : State) : (readField k s).params = s.params := by rw [readField_eq]
@[simp] theorem readField_inputs (k : FieldKind) (s : State) : (readField k s).inputs = s.inputs := by rw [readField_eq]
@[simp] theorem readField_freeTick (k : FieldKind) (s : State) : (readField k s).freeTick = s.freeTick := by rw [readField_eq]

@[simp] theorem recordError_buf (e : ErrCode) (s : State) : (recordError e s).buf = s.buf := by rw [recordError, takeError_eq]
@[simp] theorem recordError_len (e : ErrCode) (s : State) : (recordError e s).len = s.len := by rw [recordError, takeError_eq]
@[simp] theorem recordError_seq (e : ErrCode) (s : State) : (recordError e s).seq = s.seq := by rw [recordError, takeError_eq]
@[simp] theorem recordError_result (e : ErrCode) (s : State) : (recordError e s).result = s.result := by rw [recordError, takeError_eq]
@[simp] theorem recordError_recValid (e : ErrCode) (s : State) : (recordError e s).recValid = s.recValid := by rw [recordError, takeError_eq]
@[simp] theorem recordError_sps (e : ErrCode) (s : State) : (recordError e s).sps = s.sps := by rw [recordError, takeError_eq]
@[simp] theorem recordError_sloi (e : ErrCode) (s : State) : (recordError e s).sloi = s.sloi := by rw [recordError, takeError_eq]
@[simp] theorem recordError_rps (e : ErrCode) (s : State) : (recordError e s).rps = s.rps := by rw [recordError, takeError_eq]
@[simp] theorem recordError_vui (e : ErrCode) (s : State) : (recordError e s).vui = s.vui := by rw [recordError, takeError_eq]
@[simp] theorem recordError_bsr (e : ErrCode) (s : State) : (recordError e s).bsr = s.bsr := by rw [recordError, takeError_eq]
@[simp] theorem recordError_temps (e : ErrCode) (s : State) : (recordError e s).temps = s.temps := by rw [recordError, takeError_eq]
@[simp] theorem recordError_params (e : ErrCode) (s : State) : (recordError e s).params = s.params := by rw [recordError, takeError_eq]
@[simp] theorem recordError_inputs (e : ErrCode) (s : State) : (recordError e s).inputs = s.inputs := by rw [recordError, takeError_eq]
@[simp] theorem recordError_freeTick (e : ErrCode) (s : State) : (recordError e s).freeTick = s.freeTick := by rw [recordError, takeError_eq]

@[simp] theorem recordError_pos (e : ErrCode) (s : State) : (recordError e s).pos = s.pos := by
  rw [recordError, takeError_eq]

theorem recordError_err (e : ErrCode) (s : State) : (recordError e s).err = if s.err = .ok then e else s.err := by
  rw [recordError, takeError_eq]

end Sys2Proof.Machine
end

