-- ==== Sys2Proof/Laws/Stream.lean ====
section
/-! SUPPORT. The bits of the stream as numbers. -/

namespace Sys2Proof.Machine

theorem streamBits_succ (m : Memory) (p n : Nat) :
    streamBits m p (n + 1) = 2 * streamBits m p n + (streamBit m (p + n)).toNat := rfl

theorem streamBits_lt (m : Memory) (p n : Nat) : streamBits m p n < 2 ^ n := by
  induction n with
  | zero => simp [streamBits]
  | succ n ih =>
    have := Bool.toNat_le (streamBit m (p + n))
    rw [streamBits_succ, Nat.pow_succ]; omega

/-- A read of `n + k` bits is a read of `n` bits followed by one of `k` bits. -/
theorem streamBits_add (m : Memory) (p n k : Nat) :
    streamBits m p (n + k) = streamBits m p n * 2 ^ k + streamBits m (p + n) k := by
  induction k with
  | zero => simp [streamBits]
  | succ k ih =>
    rw [← Nat.add_assoc, streamBits_succ, ih, streamBits_succ, Nat.pow_succ, Nat.add_assoc]
    ring

theorem streamBits_one (m : Memory) (p : Nat) : streamBits m p 1 = (streamBit m p).toNat := by
  simp [streamBits]

/-- The first bit read is the most significant one. -/
theorem testBit_streamBits (m : Memory) (p : Nat) {n i : Nat} (h : i < n) :
    (streamBits m p n).testBit (n - 1 - i) = streamBit m (p + i) := by
  induction n generalizing i with
  | zero => omega
  | succ n ih =>
    rw [streamBits_succ]
    rcases Nat.lt_or_ge i n with hi | hi
    · rw [show n + 1 - 1 - i = (n - 1 - i) + 1 by omega, Nat.testBit_succ,
        show (2 * streamBits m p n + (streamBit m (p + n)).toNat) / 2 = streamBits m p n by
          have := Bool.toNat_le (streamBit m (p + n)); omega, ih hi]
    · obtain rfl : i = n := by omega
      rw [show i + 1 - 1 - i = 0 by omega, Nat.testBit_zero]
      cases streamBit m (p + i) <;> simp

/-- Memories that agree on the bytes of a stretch of the stream agree on its bits. -/
theorem streamBits_congr {m m' : Memory} {p n : Nat}
    (h : ∀ a, a < (p + n + 7) / 8 → memRead m a = memRead m' a) : streamBits m p n = streamBits m' p n := by
  induction n with
  | zero => rfl
  | succ n ih =>
    rw [streamBits_succ, streamBits_succ, ih fun a ha => h a (by omega)]
    rw [streamBit, streamBit, h ((p + n) / 8) (by omega)]

/-- Eight bits at a byte boundary are that byte. -/
theorem streamBits_byte (m : Memory) (a : Nat) : streamBits m (8 * a) 8 = (memRead m a).toNat := by
  have h : ∀ i < 8, (8 * a + i) / 8 = a ∧ (8 * a + i) % 8 = i := fun i hi => ⟨by omega, by omega⟩
  have all : ∀ b : Byte, 2 * (2 * (2 * (2 * (2 * (2 * (2 * (2 * 0 + (b.getLsbD 7).toNat) + (b.getLsbD 6).toNat) +
      (b.getLsbD 5).toNat) + (b.getLsbD 4).toNat) + (b.getLsbD 3).toNat) + (b.getLsbD 2).toNat) +
      (b.getLsbD 1).toNat) + (b.getLsbD 0).toNat = b.toNat := by decide +kernel
  simpa [streamBits, streamBit, h 0 (by omega), h 1 (by omega), h 2 (by omega), h 3 (by omega), h 4 (by omega),
    h 5 (by omega), h 6 (by omega), h 7 (by omega)] using all (memRead m a)

end Sys2Proof.Machine
end

