-- ==== Sys2Proof/Laws/Loops.lean ====
section
/-! SUPPORT. The sequencer's loops: the induction, once. -/

namespace Sys2Proof.Machine

/-- What every iteration keeps, the loop keeps. -/
theorem repeatFor_keeps {α : Type} {P : α → Prop} {body : Nat → α → α} (h : ∀ i a, P a → P (body i a)) :
    ∀ (count first : Nat) (a : α), P a → P (repeatFor body count first a)
  | 0, _, _, ha => ha
  | count + 1, first, a, ha => repeatFor_keeps h count (first + 1) (body first a) (h first a ha)

/-- A quantity that no iteration changes, the loop does not change. -/
theorem repeatFor_const {α β : Type} (g : α → β) {body : Nat → α → α} (h : ∀ i a, g (body i a) = g a)
    (count first : Nat) (a : α) : g (repeatFor body count first a) = g a :=
  repeatFor_keeps (P := fun b => g b = g a) (fun i b hb => (h i b).trans hb) count first a rfl

/-- A reflexive, transitive relation that holds from each iteration to the next holds across the loop. -/
theorem repeatFor_rel {α : Type} {R : α → α → Prop} (refl : ∀ a, R a a) (trans : ∀ {a b c}, R a b → R b c → R a c)
    {body : Nat → α → α} (h : ∀ i a, R a (body i a)) (count first : Nat) (a : α) :
    R a (repeatFor body count first a) :=
  repeatFor_keeps (P := R a) (fun i b hb => trans hb (h i b)) count first a (refl a)

@[simp] theorem repeatFor_zero {α : Type} (body : Nat → α → α) (first : Nat) (a : α) :
    repeatFor body 0 first a = a := rfl

theorem repeatFor_succ {α : Type} (body : Nat → α → α) (count first : Nat) (a : α) :
    repeatFor body (count + 1) first a = repeatFor body count (first + 1) (body first a) := rfl

end Sys2Proof.Machine
end

