-- ==== Sys2Proof/Laws/Walk.lean ====
section
/-! SUPPORT. What a stretch of the walk can do to the state, said once: the relation `Moves`, and that every read,
store and loop of the sequencer meets it. -/

namespace Sys2Proof.Machine

/-! ### The stores, field by field -/

@[simp] theorem readSps_buf (k : FieldKind) (put : Word → SpsRecord → SpsRecord) (s : State) :
    (readSps k put s).buf = s.buf := by simp [readSps]
@[simp] theorem readSps_len (k : FieldKind) (put : Word → SpsRecord → SpsRecord) (s : State) :
    (readSps k put s).len = s.len := by simp [readSps]
@[simp] theorem readSps_pos (k : FieldKind) (put : Word → SpsRecord → SpsRecord) (s : State) :
    (readSps k put s).pos = (readField k s).pos := by simp [readSps]
@[simp] theorem readSps_err (k : FieldKind) (put : Word → SpsRecord → SpsRecord) (s : State) :
    (readSps k put s).err = (readField k s).err := by simp [readSps]
@[simp] theorem readSps_val (k : FieldKind) (put : Word → SpsRecord → SpsRecord) (s : State) :
    (readSps k put s).val = (readField k s).val := by simp [readSps]
@[simp] theorem readSps_seq (k : FieldKind) (put : Word → SpsRecord → SpsRecord) (s : State) :
    (readSps k put s).seq = s.seq := by simp [readSps]
@[simp] theorem readSps_result (k : FieldKind) (put : Word → SpsRecord → SpsRecord) (s : State) :
    (readSps k put s).result = s.result := by simp [readSps]
@[simp] theorem readSps_recValid (k : FieldKind) (put : Word → SpsRecord → SpsRecord) (s : State) :
    (readSps k put s).recValid = s.recValid := by simp [readSps]
@[simp] theorem readSps_sps (k : FieldKind) (put : Word → SpsRecord → SpsRecord) (s : State) :
    (readSps k put s).sps = put (readField k s).val s.sps := by simp [readSps]
@[simp] theorem readSps_sloi (k : FieldKind) (put : Word → SpsRecord → SpsRecord) (s : State) :
    (readSps k put s).sloi = s.sloi := by simp [readSps]
@[simp] theorem readSps_rps (k : FieldKind) (put : Word → SpsRecord → SpsRecord) (s : State) :
    (readSps k put s).rps = s.rps := by simp [readSps]
@[simp] theorem readSps_vui (k : FieldKind) (put : Word → SpsRecord → SpsRecord) (s : State) :
    (readSps k put s).vui = s.vui := by simp [readSps]
@[simp] theorem readSps_bsr (k : FieldKind) (put : Word → SpsRecord → SpsRecord) (s : State) :
    (readSps k put s).bsr = s.bsr := by simp [readSps]
@[simp] theorem readSps_temps (k : FieldKind) (put : Word → SpsRecord → SpsRecord) (s : State) :
    (readSps k put s).temps = s.temps := by simp [readSps]
@[simp] theorem readSps_params (k : FieldKind) (put : Word → SpsRecord → SpsRecord) (s : State) :
    (readSps k put s).params = s.params := by simp [readSps]
@[simp] theorem readSps_inputs (k : FieldKind) (put : Word → SpsRecord → SpsRecord) (s : State) :
    (readSps k put s).inputs = s.inputs := by simp [readSps]
@[simp] theorem readSps_freeTick (k : FieldKind) (put : Word → SpsRecord → SpsRecord) (s : State) :
    (readSps k put s).freeTick = s.freeTick := by simp [readSps]

@[simp] theorem readVui_buf (k : FieldKind) (put : Word → VuiRecord → VuiRecord) (s : State) :
    (readVui k put s).buf = s.buf := by simp [readVui]
@[simp] theorem readVui_len (k : FieldKind) (put : Word → VuiRecord → VuiRecord) (s : State) :
    (readVui k put s).len = s.len := by simp [readVui]
@[simp] theorem readVui_pos (k : FieldKind) (put : Word → VuiRecord → VuiRecord) (s : State) :
    (readVui k put s).pos = (readField k s).pos := by simp [readVui]
@[simp] theorem readVui_err (k : FieldKind) (put : Word → VuiRecord → VuiRecord) (s : State) :
    (readVui k put s).err = (readField k s).err := by simp [readVui]
@[simp] theorem readVui_val (k : FieldKind) (put : Word → VuiRecord → VuiRecord) (s : State) :
    (readVui k put s).val = (readField k s).val := by simp [readVui]
@[simp] theorem readVui_seq (k : FieldKind) (put : Word → VuiRecord → VuiRecord) (s : State) :
    (readVui k put s).seq = s.seq := by simp [readVui]
@[simp] theorem readVui_result (k : FieldKind) (put : Word → VuiRecord → VuiRecord) (s : State) :
    (readVui k put s).result = s.result := by simp [readVui]
@[simp] theorem readVui_recValid (k : FieldKind) (put : Word → VuiRecord → VuiRecord) (s : State) :
    (readVui k put s).recValid = s.recValid := by simp [readVui]
@[simp] theorem readVui_sps (k : FieldKind) (put : Word → VuiRecord → VuiRecord) (s : State) :
    (readVui k put s).sps = s.sps := by simp [readVui]
@[simp] theorem readVui_sloi (k : FieldKind) (put : Word → VuiRecord → VuiRecord) (s : State) :
    (readVui k put s).sloi = s.sloi := by simp [readVui]
@[simp] theorem readVui_rps (k : FieldKind) (put : Word → VuiRecord → VuiRecord) (s : State) :
    (readVui k put s).rps = s.rps := by simp [readVui]
@[simp] theorem readVui_vui (k : FieldKind) (put : Word → VuiRecord → VuiRecord) (s : State) :
    (readVui k put s).vui = put (readField k s).val s.vui := by simp [readVui]
@[simp] theorem readVui_bsr (k : FieldKind) (put : Word → VuiRecord → VuiRecord) (s : State) :
    (readVui k put s).bsr = s.bsr := by simp [readVui]
@[simp] theorem readVui_temps (k : FieldKind) (put : Word → VuiRecord → VuiRecord) (s : State) :
    (readVui k put s).temps = s.temps := by simp [readVui]
@[simp] theorem readVui_params (k : FieldKind) (put : Word → VuiRecord → VuiRecord) (s : State) :
    (readVui k put s).params = s.params := by simp [readVui]
@[simp] theorem readVui_inputs (k : FieldKind) (put : Word → VuiRecord → VuiRecord) (s : State) :
    (readVui k put s).inputs = s.inputs := by simp [readVui]
@[simp] theorem readVui_freeTick (k : FieldKind) (put : Word → VuiRecord → VuiRecord) (s : State) :
    (readVui k put s).freeTick = s.freeTick := by simp [readVui]

@[simp] theorem readBsr_buf (k : FieldKind) (put : Word → BsrRecord → BsrRecord) (s : State) :
    (readBsr k put s).buf = s.buf := by simp [readBsr]
@[simp] theorem readBsr_len (k : FieldKind) (put : Word → BsrRecord → BsrRecord) (s : State) :
    (readBsr k put s).len = s.len := by simp [readBsr]
@[simp] theorem readBsr_pos (k : FieldKind) (put : Word → BsrRecord → BsrRecord) (s : State) :
    (readBsr k put s).pos = (readField k s).pos := by simp [readBsr]
@[simp] theorem readBsr_err (k : FieldKind) (put : Word → BsrRecord → BsrRecord) (s : State) :
    (readBsr k put s).err = (readField k s).err := by simp [readBsr]
@[simp] theorem readBsr_val (k : FieldKind) (put : Word → BsrRecord → BsrRecord) (s : State) :
    (readBsr k put s).val = (readField k s).val := by simp [readBsr]
@[simp] theorem readBsr_seq (k : FieldKind) (put : Word → BsrRecord → BsrRecord) (s : State) :
    (readBsr k put s).seq = s.seq := by simp [readBsr]
@[simp] theorem readBsr_result (k : FieldKind) (put : Word → BsrRecord → BsrRecord) (s : State) :
    (readBsr k put s).result = s.result := by simp [readBsr]
@[simp] theorem readBsr_recValid (k : FieldKind) (put : Word → BsrRecord → BsrRecord) (s : State) :
    (readBsr k put s).recValid = s.recValid := by simp [readBsr]
@[simp] theorem readBsr_sps (k : FieldKind) (put : Word → BsrRecord → BsrRecord) (s : State) :
    (readBsr k put s).sps = s.sps := by simp [readBsr]
@[simp] theorem readBsr_sloi (k : FieldKind) (put : Word → BsrRecord → BsrRecord) (s : State) :
    (readBsr k put s).sloi = s.sloi := by simp [readBsr]
@[simp] theorem readBsr_rps (k : FieldKind) (put : Word → BsrRecord → BsrRecord) (s : State) :
    (readBsr k put s).rps = s.rps := by simp [readBsr]
@[simp] theorem readBsr_vui (k : FieldKind) (put : Word → BsrRecord → BsrRecord) (s : State) :
    (readBsr k put s).vui = s.vui := by simp [readBsr]
@[simp] theorem readBsr_bsr (k : FieldKind) (put : Word → BsrRecord → BsrRecord) (s : State) :
    (readBsr k put s).bsr = put (readField k s).val s.bsr := by simp [readBsr]
@[simp] theorem readBsr_temps (k : FieldKind) (put : Word → BsrRecord → BsrRecord) (s : State) :
    (readBsr k put s).temps = s.temps := by simp [readBsr]
@[simp] theorem readBsr_params (k : FieldKind) (put : Word → BsrRecord → BsrRecord) (s : State) :
    (readBsr k put s).params = s.params := by simp [readBsr]
@[simp] theorem readBsr_inputs (k : FieldKind) (put : Word → BsrRecord → BsrRecord) (s : State) :
    (readBsr k put s).inputs = s.inputs := by simp [readBsr]
@[simp] theorem readBsr_freeTick (k : FieldKind) (put : Word → BsrRecord → BsrRecord) (s : State) :
    (readBsr k put s).freeTick = s.freeTick := by simp [readBsr]

@[simp] theorem readTemp_buf (k : FieldKind) (put : Word → Temps → Temps) (s : State) :
    (readTemp k put s).buf = s.buf := by simp [readTemp]
@[simp] theorem readTemp_len (k : FieldKind) (put : Word → Temps → Temps) (s : State) :
    (readTemp k put s).len = s.len := by simp [readTemp]
@[simp] theorem readTemp_pos (k : FieldKind) (put : Word → Temps → Temps) (s : State) :
    (readTemp k put s).pos = (readField k s).pos := by simp [readTemp]
@[simp] theorem readTemp_err (k : FieldKind) (put : Word → Temps → Temps) (s : State) :
    (readTemp k put s).err = (readField k s).err := by simp [readTemp]
@[simp] theorem readTemp_val (k : FieldKind) (put : Word → Temps → Temps) (s : State) :
    (readTemp k put s).val = (readField k s).val := by simp [readTemp]
@[simp] theorem readTemp_seq (k : FieldKind) (put : Word → Temps → Temps) (s : State) :
    (readTemp k put s).seq = s.seq := by simp [readTemp]
@[simp] theorem readTemp_result (k : FieldKind) (put : Word → Temps → Temps) (s : State) :
    (readTemp k put s).result = s.result := by simp [readTemp]
@[simp] theorem readTemp_recValid (k : FieldKind) (put : Word → Temps → Temps) (s : State) :
    (readTemp k put s).recValid = s.recValid := by simp [readTemp]
@[simp] theorem readTemp_sps (k : FieldKind) (put : Word → Temps → Temps) (s : State) :
    (readTemp k put s).sps = s.sps := by simp [readTemp]
@[simp] theorem readTemp_sloi (k : FieldKind) (put : Word → Temps → Temps) (s : State) :
    (readTemp k put s).sloi = s.sloi := by simp [readTemp]
@[simp] theorem readTemp_rps (k : FieldKind) (put : Word → Temps → Temps) (s : State) :
    (readTemp k put s).rps = s.rps := by simp [readTemp]
@[simp] theorem readTemp_vui (k : FieldKind) (put : Word → Temps → Temps) (s : State) :
    (readTemp k put s).vui = s.vui := by simp [readTemp]
@[simp] theorem readTemp_bsr (k : FieldKind) (put : Word → Temps → Temps) (s : State) :
    (readTemp k put s).bsr = s.bsr := by simp [readTemp]
@[simp] theorem readTemp_temps (k : FieldKind) (put : Word → Temps → Temps) (s : State) :
    (readTemp k put s).temps = put (readField k s).val s.temps := by simp [readTemp]
@[simp] theorem readTemp_params (k : FieldKind) (put : Word → Temps → Temps) (s : State) :
    (readTemp k put s).params = s.params := by simp [readTemp]
@[simp] theorem readTemp_inputs (k : FieldKind) (put : Word → Temps → Temps) (s : State) :
    (readTemp k put s).inputs = s.inputs := by simp [readTemp]
@[simp] theorem readTemp_freeTick (k : FieldKind) (put : Word → Temps → Temps) (s : State) :
    (readTemp k put s).freeTick = s.freeTick := by simp [readTemp]

@[simp] theorem skipField_buf (k : FieldKind) (s : State) : (skipField k s).buf = s.buf := by simp [skipField]
@[simp] theorem skipField_len (k : FieldKind) (s : State) : (skipField k s).len = s.len := by simp [skipField]
@[simp] theorem skipField_pos (k : FieldKind) (s : State) : (skipField k s).pos = (readField k s).pos := by simp [skipField]
@[simp] theorem skipField_err (k : FieldKind) (s : State) : (skipField k s).err = (readField k s).err := by simp [skipField]
@[simp] theorem skipField_val (k : FieldKind) (s : State) : (skipField k s).val = (readField k s).val := by simp [skipField]
@[simp] theorem skipField_seq (k : FieldKind) (s : State) : (skipField k s).seq = s.seq := by simp [skipField]
@[simp] theorem skipField_result (k : FieldKind) (s : State) : (skipField k s).result = s.result := by simp [skipField]
@[simp] theorem skipField_recValid (k : FieldKind) (s : State) : (skipField k s).recValid = s.recValid := by simp [skipField]
@[simp] theorem skipField_sps (k : FieldKind) (s : State) : (skipField k s).sps = s.sps := by simp [skipField]
@[simp] theorem skipField_sloi (k : FieldKind) (s : State) : (skipField k s).sloi = s.sloi := by simp [skipField]
@[simp] theorem skipField_rps (k : FieldKind) (s : State) : (skipField k s).rps = s.rps := by simp [skipField]
@[simp] theorem skipField_vui (k : FieldKind) (s : State) : (skipField k s).vui = s.vui := by simp [skipField]
@[simp] theorem skipField_bsr (k : FieldKind) (s : State) : (skipField k s).bsr = s.bsr := by simp [skipField]
@[simp] theorem skipField_temps (k : FieldKind) (s : State) : (skipField k s).temps = s.temps := by simp [skipField]
@[simp] theorem skipField_params (k : FieldKind) (s : State) : (skipField k s).params = s.params := by simp [skipField]
@[simp] theorem skipField_inputs (k : FieldKind) (s : State) : (skipField k s).inputs = s.inputs := by simp [skipField]
@[simp] theorem skipField_freeTick (k : FieldKind) (s : State) : (skipField k s).freeTick = s.freeTick := by simp [skipField]

@[simp] theorem noteTemps_buf (f : Temps → Temps) (s : State) : (noteTemps f s).buf = s.buf := rfl
@[simp] theorem noteTemps_len (f : Temps → Temps) (s : State) : (noteTemps f s).len = s.len := rfl
@[simp] theorem noteTemps_pos (f : Temps → Temps) (s : State) : (noteTemps f s).pos = s.pos := rfl
@[simp] theorem noteTemps_err (f : Temps → Temps) (s : State) : (noteTemps f s).err = s.err := rfl
@[simp] theorem noteTemps_val (f : Temps → Temps) (s : State) : (noteTemps f s).val = s.val := rfl
@[simp] theorem noteTemps_seq (f : Temps → Temps) (s : State) : (noteTemps f s).seq = s.seq := rfl
@[simp] theorem noteTemps_result (f : Temps → Temps) (s : State) : (noteTemps f s).result = s.result := rfl
@[simp] theorem noteTemps_recValid (f : Temps → Temps) (s : State) : (noteTemps f s).recValid = s.recValid := rfl
@[simp] theorem noteTemps_sps (f : Temps → Temps) (s : State) : (noteTemps f s).sps = s.sps := rfl
@[simp] theorem noteTemps_sloi (f : Temps → Temps) (s : State) : (noteTemps f s).sloi = s.sloi := rfl
@[simp] theorem noteTemps_rps (f : Temps → Temps) (s : State) : (noteTemps f s).rps = s.rps := rfl
@[simp] theorem noteTemps_vui (f : Temps → Temps) (s : State) : (noteTemps f s).vui = s.vui := rfl
@[simp] theorem noteTemps_bsr (f : Temps → Temps) (s : State) : (noteTemps f s).bsr = s.bsr := rfl
@[simp] theorem noteTemps_temps (f : Temps → Temps) (s : State) : (noteTemps f s).temps = f s.temps := rfl
@[simp] theorem noteTemps_params (f : Temps → Temps) (s : State) : (noteTemps f s).params = s.params := rfl
@[simp] theorem noteTemps_inputs (f : Temps → Temps) (s : State) : (noteTemps f s).inputs = s.inputs := rfl
@[simp] theorem noteTemps_freeTick (f : Temps → Temps) (s : State) : (noteTemps f s).freeTick = s.freeTick := rfl

/-! ### A stretch of the walk -/

/-- From `s` to `t`: the buffer, the wiring, the host's actions and the free-value counter stay; `POS` never goes back
(R94) and stays inside the stream (R16); a set latch stays as it is and pins `POS` (R203, R93); code 5 is never
latched (R14); and whatever `kept` looks at stays. -/
structure Moves {β : Type} (kept : State → β) (s t : State) : Prop where
  buf : t.buf = s.buf
  len : t.len = s.len
  params : t.params = s.params
  inputs : t.inputs = s.inputs
  freeTick : t.freeTick = s.freeTick
  pos_le : s.pos ≤ t.pos
  inside : s.pos ≤ streamEnd s → t.pos ≤ streamEnd t
  latched : s.err ≠ .ok → t.err = s.err ∧ t.pos = s.pos
  notFive : s.err ≠ .wrongUnitType → t.err ≠ .wrongUnitType
  keeps : kept t = kept s

theorem Moves.refl {β : Type} (kept : State → β) (s : State) : Moves kept s s :=
  ⟨rfl, rfl, rfl, rfl, rfl, Nat.le_refl _, id, fun _ => ⟨rfl, rfl⟩, id, rfl⟩

theorem Moves.trans {β : Type} {kept : State → β} {s t u : State} (a : Moves kept s t) (b : Moves kept t u) :
    Moves kept s u where
  buf := b.buf.trans a.buf
  len := b.len.trans a.len
  params := b.params.trans a.params
  inputs := b.inputs.trans a.inputs
  freeTick := b.freeTick.trans a.freeTick
  pos_le := Nat.le_trans a.pos_le b.pos_le
  inside h := b.inside (a.inside h)
  latched h := by
    obtain ⟨h1, h2⟩ := a.latched h
    obtain ⟨h3, h4⟩ := b.latched (by rwa [h1])
    exact ⟨h3.trans h1, h4.trans h2⟩
  notFive h := b.notFive (a.notFive h)
  keeps := b.keeps.trans a.keeps

/-- A step that leaves the cursor, the buffer and the model's own fields alone, and keeps what `kept` looks at. -/
theorem Moves.ofStore {β : Type} {kept : State → β} {s t : State}
    (h : t = { s with seq := t.seq, result := t.result, recValid := t.recValid, sps := t.sps, sloi := t.sloi,
                      rps := t.rps, vui := t.vui, bsr := t.bsr, temps := t.temps })
    (hk : kept t = kept s) : Moves kept s t := by
  refine ⟨?_, ?_, ?_, ?_, ?_, ?_, ?_, ?_, ?_, hk⟩ <;> rw [h] <;> simp [streamEnd]

/-- `kept` does not look at the cursor, at `SEQ` or at the temporaries. -/
def CursorBlind {β : Type} (kept : State → β) : Prop :=
  ∀ (s : State) (p : Nat) (e : ErrCode) (v : Word) (q : Seq) (t : Temps),
    kept { s with pos := p, err := e, val := v, seq := q, temps := t } = kept s

variable {β : Type} {kept : State → β} {s t : State}

theorem moves_readField (hk : CursorBlind kept) (k : FieldKind) (s : State) : Moves kept s (readField k s) := by
  have hkept : kept (readField k s) = kept s := by
    rw [readField_eq k s]; exact hk s _ _ _ s.seq s.temps
  rcases readField_cases k s with ⟨h, e⟩ | ⟨h, c, hc, e⟩ | ⟨h, v, p, hp, hin, e⟩
  · refine ⟨?_, ?_, ?_, ?_, ?_, ?_, ?_, ?_, ?_, hkept⟩ <;> rw [e] <;> simp [streamEnd]
  · refine ⟨?_, ?_, ?_, ?_, ?_, ?_, ?_, ?_, ?_, hkept⟩ <;> rw [e] <;> rcases hc with rfl | rfl <;> simp [streamEnd, h]
  · refine ⟨?_, ?_, ?_, ?_, ?_, ?_, ?_, ?_, ?_, hkept⟩ <;> rw [e] <;> simp [h, hp]
    simpa [streamEnd] using hin

theorem moves_recordError (hk : CursorBlind kept) {e : ErrCode} (he : e ≠ .wrongUnitType) (s : State) :
    Moves kept s (recordError e s) := by
  have hkept : kept (recordError e s) = kept s := by
    rw [recordError, takeError_eq]; exact hk s s.pos _ _ s.seq s.temps
  refine ⟨?_, ?_, ?_, ?_, ?_, ?_, ?_, ?_, ?_, hkept⟩ <;> rw [recordError, takeError_eq] <;> simp [streamEnd]
  · intro h h'; exact absurd h' h
  · split <;> simp [he]

theorem Moves.field (hk : CursorBlind kept) (k : FieldKind) (h : Moves kept s t) : Moves kept s (readField k t) :=
  h.trans (moves_readField hk k t)

theorem Moves.skip (hk : CursorBlind kept) (k : FieldKind) (h : Moves kept s t) : Moves kept s (skipField k t) :=
  h.trans (moves_readField hk k t)

theorem Moves.error (hk : CursorBlind kept) {e : ErrCode} (he : e ≠ .wrongUnitType) (h : Moves kept s t) :
    Moves kept s (recordError e t) := h.trans (moves_recordError hk he t)

theorem Moves.seq (hk : CursorBlind kept) (q : Seq) (h : Moves kept s t) : Moves kept s (setSeq q t) :=
  h.trans (.ofStore rfl (hk t t.pos t.err t.val q t.temps))

theorem Moves.note (hk : CursorBlind kept) (f : Temps → Temps) (h : Moves kept s t) : Moves kept s (noteTemps f t) :=
  h.trans (.ofStore rfl (hk t t.pos t.err t.val t.seq (f t.temps)))

theorem Moves.temp (hk : CursorBlind kept) (k : FieldKind) (put : Word → Temps → Temps) (h : Moves kept s t) :
    Moves kept s (readTemp k put t) :=
  (h.field hk k).trans (.ofStore rfl (hk (readField k t) _ _ _ _ _))

theorem Moves.sps (hk : CursorBlind kept) (hs : ∀ s r, kept (setSps r s) = kept s) (k : FieldKind)
    (put : Word → SpsRecord → SpsRecord) (h : Moves kept s t) : Moves kept s (readSps k put t) :=
  (h.field hk k).trans (.ofStore rfl (hs _ _))

theorem Moves.vui (hk : CursorBlind kept) (hs : ∀ s r, kept (setVui r s) = kept s) (k : FieldKind)
    (put : Word → VuiRecord → VuiRecord) (h : Moves kept s t) : Moves kept s (readVui k put t) :=
  (h.field hk k).trans (.ofStore rfl (hs _ _))

theorem Moves.bsr (hk : CursorBlind kept) (hs : ∀ s r, kept (setBsr r s) = kept s) (k : FieldKind)
    (put : Word → BsrRecord → BsrRecord) (h : Moves kept s t) : Moves kept s (readBsr k put t) :=
  (h.field hk k).trans (.ofStore rfl (hs _ _))

theorem Moves.loop {body : Nat → State → State} (hb : ∀ i s, Moves kept s (body i s)) (count first : Nat)
    (h : Moves kept s t) : Moves kept s (repeatFor body count first t) :=
  h.trans (repeatFor_rel (Moves.refl kept) Moves.trans hb count first t)

/-- The same for a loop that carries an entry along. -/
theorem Moves.loopEntry {body : Nat → State × RpsEntry → State × RpsEntry}
    (hb : ∀ i p, Moves kept p.1 (body i p).1) (count first : Nat) (e : RpsEntry) (h : Moves kept s t) :
    Moves kept s (repeatFor body count first (t, e)).1 :=
  h.trans (repeatFor_rel (R := fun p q => Moves kept p.1 q.1) (fun p => Moves.refl kept p.1) Moves.trans hb count first
    (t, e))

/-! ### What each part of the walk keeps -/

/-- All that is not the cursor, `SEQ` or a temporary. -/
def recordPart (s : State) : SpsRecord × List SloiEntry × List RpsEntry × VuiRecord × BsrRecord × ErrCode × Bool :=
  (s.sps, s.sloi, s.rps, s.vui, s.bsr, s.result, s.recValid)

/-- What a step that stores into `REC.*` keeps. -/
def besidesSps (s : State) : List SloiEntry × List RpsEntry × VuiRecord × BsrRecord × ErrCode × Bool :=
  (s.sloi, s.rps, s.vui, s.bsr, s.result, s.recValid)

/-- What the VUI routine keeps. -/
def besidesVui (s : State) : SpsRecord × List SloiEntry × List RpsEntry × ErrCode × Bool :=
  (s.sps, s.sloi, s.rps, s.result, s.recValid)

theorem recordPart_blind : CursorBlind recordPart := fun _ _ _ _ _ _ => rfl

theorem besidesSps_blind : CursorBlind besidesSps := fun _ _ _ _ _ _ => rfl

theorem besidesVui_blind : CursorBlind besidesVui := fun _ _ _ _ _ _ => rfl

/-- What keeps the whole record keeps any part of it. -/
theorem Moves.part {γ : Type} {part : State → γ} (h : Moves recordPart s t)
    (hp : recordPart t = recordPart s → part t = part s) : Moves part s t :=
  ⟨h.buf, h.len, h.params, h.inputs, h.freeTick, h.pos_le, h.inside, h.latched, h.notFive, hp h.keeps⟩

theorem Moves.toSps (h : Moves recordPart s t) : Moves besidesSps s t :=
  h.part fun e => by simp only [recordPart, Prod.mk.injEq] at e; simp [besidesSps, e]

theorem Moves.toVui (h : Moves recordPart s t) : Moves besidesVui s t :=
  h.part fun e => by simp only [recordPart, Prod.mk.injEq] at e; simp [besidesVui, e]

end Sys2Proof.Machine
end

