-- ==== Sys2Proof/Laws/Fields.lean ====
section
/-! SUPPORT. Reading a run of fields that the stream holds, one at a time: `Reading` says how far a step has come, and
each lemma takes it over one more read or store. -/

namespace Sys2Proof.Machine

variable {s t u : State} {k : FieldKind} {v : Nat} {fs done todo : Fields}

theorem fieldsWidth_append (fs gs : Fields) : fieldsWidth (fs ++ gs) = fieldsWidth fs + fieldsWidth gs := by
  induction fs with
  | nil => simp [fieldsWidth]
  | cons f fs ih => simp [fieldsWidth, ih, Nat.add_assoc]

theorem fieldsAt_append (m : Memory) (p : Nat) (fs gs : Fields) :
    fieldsAt m p (fs ++ gs) = (fieldsAt m p fs && fieldsAt m (p + fieldsWidth fs) gs) := by
  induction fs generalizing p with
  | nil => simp [fieldsAt, fieldsWidth]
  | cons f fs ih => simp [fieldsAt, fieldsWidth, ih, Nat.add_assoc, Bool.and_assoc]

/-- What the stream holds depends on the cursor and the buffer only. -/
theorem StreamHolds.congr (h : StreamHolds s fs) (he : t.err = s.err) (hp : t.pos = s.pos) (hl : t.len = s.len)
    (hb : t.buf = s.buf) : StreamHolds t fs := by
  obtain ⟨h1, h2, h3⟩ := h
  exact ⟨he.trans h1, by rw [hp]; simpa only [streamEnd, hl] using h2, by rw [hb, hp]; exact h3⟩

/-- The first field alone. -/
theorem StreamHolds.first (h : StreamHolds s ((k, v) :: fs)) :
    s.err = .ok ∧ s.pos + fieldWidth k v ≤ streamEnd s ∧ fieldAt s.buf s.pos k v = true := by
  obtain ⟨h1, h2, h3⟩ := h
  simp only [fieldsWidth] at h2
  simp only [fieldsAt, Bool.and_eq_true] at h3
  exact ⟨h1, by omega, h3.1⟩

/-- The fields after the first, once the cursor has passed it. -/
theorem StreamHolds.next (h : StreamHolds s ((k, v) :: fs)) (he : t.err = s.err) (hp : t.pos = s.pos + fieldWidth k v)
    (hl : t.len = s.len) (hb : t.buf = s.buf) : StreamHolds t fs := by
  obtain ⟨h1, h2, h3⟩ := h
  simp only [fieldsWidth] at h2
  simp only [fieldsAt, Bool.and_eq_true] at h3
  exact ⟨he.trans h1, by rw [hp]; simp only [streamEnd, hl] at *; omega, by rw [hb, hp]; exact h3.2⟩

/-- The read of a field of kind `k` gives the value `v` and takes the field's width. -/
def ReadsField (k : FieldKind) (v : Nat) (s : State) : Prop :=
  readField k s = { s with val := BitVec.ofNat 64 v, pos := s.pos + fieldWidth k v }

/-- A fixed-width field. -/
theorem readsField_u {n : Nat} (h : StreamHolds s ((.u n, v) :: fs)) : ReadsField (.u n) v s := by
  obtain ⟨he, hp, hv⟩ := h.first
  simp only [fieldAt, decide_eq_true_eq] at hv
  simp only [fieldWidth] at hp
  have := readBits_ok he (show n ≤ streamEnd s - s.pos by omega)
  rwa [hv] at this

/-- A flag. -/
theorem readsField_f (h : StreamHolds s ((.f, v) :: fs)) : ReadsField .f v s := by
  obtain ⟨he, hp, hv⟩ := h.first
  simp only [fieldAt, decide_eq_true_eq] at hv
  simp only [fieldWidth] at hp
  have := readBits_ok he (show 1 ≤ streamEnd s - s.pos by omega)
  rwa [streamBits_one, hv] at this

/-- From `s` to `t` the fields `done` were read, with the record of `u`, and the fields `todo` come next. -/
structure Reading (s : State) (done todo : Fields) (t u : State) : Prop where
  into : ReadsInto done s t u
  ahead : StreamHolds t todo

/-- Where a step starts. -/
theorem Reading.start (h : StreamHolds s todo) : Reading s [] todo s s := ⟨rfl, h⟩

theorem Reading.seq (q : Seq) (h : Reading s done todo t u) : Reading s done todo (setSeq q t) u :=
  ⟨by rw [ReadsInto, h.into]; rfl, h.ahead.congr rfl rfl rfl rfl⟩

theorem Reading.note (f : Temps → Temps) (h : Reading s done todo t u) : Reading s done todo (noteTemps f t) u :=
  ⟨by rw [ReadsInto, h.into]; rfl, h.ahead.congr rfl rfl rfl rfl⟩

theorem Reading.field (h : Reading s done ((k, v) :: todo) t u) (hr : ReadsField k v t) :
    Reading s (done ++ [(k, v)]) todo (readField k t) u := by
  have hp : t.pos = s.pos + fieldsWidth done := by rw [h.into]
  refine ⟨?_, h.ahead.next (by rw [hr]) (by rw [hr]) (by rw [hr]) (by rw [hr])⟩
  rw [ReadsInto, hr, fieldsWidth_append, hp, h.into]
  simp [fieldsWidth, Nat.add_assoc]

theorem Reading.skip (h : Reading s done ((k, v) :: todo) t u) (hr : ReadsField k v t) :
    Reading s (done ++ [(k, v)]) todo (skipField k t) u := h.field hr

theorem Reading.val (hr : ReadsField k v t) : (readField k t).val = BitVec.ofNat 64 v := by rw [hr]

theorem Reading.temp (put : Word → Temps → Temps) (h : Reading s done ((k, v) :: todo) t u) (hr : ReadsField k v t) :
    Reading s (done ++ [(k, v)]) todo (readTemp k put t) u :=
  ⟨by rw [ReadsInto, readTemp, (h.field hr).into]; rfl, (h.field hr).ahead.congr rfl rfl rfl rfl⟩

theorem Reading.sps (put : Word → SpsRecord → SpsRecord) (h : Reading s done ((k, v) :: todo) t u)
    (hr : ReadsField k v t) :
    Reading s (done ++ [(k, v)]) todo (readSps k put t) (setSps (put (BitVec.ofNat 64 v) u.sps) u) := by
  refine ⟨?_, (h.field hr).ahead.congr rfl rfl rfl rfl⟩
  have hs : (readField k t).sps = u.sps := by rw [(h.field hr).into]
  rw [ReadsInto, readSps, hs, Reading.val hr, (h.field hr).into]
  rfl

theorem Reading.vui (put : Word → VuiRecord → VuiRecord) (h : Reading s done ((k, v) :: todo) t u)
    (hr : ReadsField k v t) :
    Reading s (done ++ [(k, v)]) todo (readVui k put t) (setVui (put (BitVec.ofNat 64 v) u.vui) u) := by
  refine ⟨?_, (h.field hr).ahead.congr rfl rfl rfl rfl⟩
  have hs : (readField k t).vui = u.vui := by rw [(h.field hr).into]
  rw [ReadsInto, readVui, hs, Reading.val hr, (h.field hr).into]
  rfl

theorem Reading.bsr (put : Word → BsrRecord → BsrRecord) (h : Reading s done ((k, v) :: todo) t u)
    (hr : ReadsField k v t) :
    Reading s (done ++ [(k, v)]) todo (readBsr k put t) (setBsr (put (BitVec.ofNat 64 v) u.bsr) u) := by
  refine ⟨?_, (h.field hr).ahead.congr rfl rfl rfl rfl⟩
  have hs : (readField k t).bsr = u.bsr := by rw [(h.field hr).into]
  rw [ReadsInto, readBsr, hs, Reading.val hr, (h.field hr).into]
  rfl

/-- What a step looks at to take its branch. -/
theorem Reading.spsOf (h : Reading s done todo t u) : t.sps = u.sps := by rw [h.into]

theorem Reading.vuiOf (h : Reading s done todo t u) : t.vui = u.vui := by rw [h.into]

theorem Reading.bsrOf (h : Reading s done todo t u) : t.bsr = u.bsr := by rw [h.into]

theorem Reading.rpsOf (h : Reading s done todo t u) : t.rps = u.rps := by rw [h.into]

theorem Reading.paramsOf (h : Reading s done todo t u) : t.params = u.params := by rw [h.into]

/-- Where a step ends: nothing is left to read. -/
theorem Reading.finish (h : Reading s done [] t u) (hd : done = fs) : ReadsInto fs s t u := hd ▸ h.into

/-- A flag's value is the flag. -/
@[simp] theorem isOne_flag (b : Bool) : isOne (BitVec.ofNat 64 b.toNat) = b := by cases b <;> rfl

end Sys2Proof.Machine
end

