-- ==== Sys2Proof/Laws/Memory.lean ====
section
/-! SUPPORT. The buffer: LOAD's memory is in canonical form and holds the bytes it was given. -/

namespace Sys2Proof.Machine

theorem risingFrom_mono {lo hi : Nat} (h : lo ≤ hi) {m : Memory} (hm : Memory.risingFrom hi m = true) :
    Memory.risingFrom lo m = true := by
  cases m with
  | nil => rfl
  | cons c m =>
    simp only [Memory.risingFrom, Bool.and_eq_true, decide_eq_true_eq] at hm ⊢
    exact ⟨⟨Nat.le_trans h hm.1.1, hm.1.2⟩, hm.2⟩

theorem bufferFrom_rising (bytes : List Byte) (a : Nat) : Memory.risingFrom a (bufferFrom a bytes) = true := by
  induction bytes generalizing a with
  | nil => rfl
  | cons b bytes ih =>
    unfold bufferFrom
    split
    · exact risingFrom_mono (Nat.le_succ a) (ih (a + 1))
    · simp only [Memory.risingFrom, Bool.and_eq_true, decide_eq_true_eq]
      exact ⟨⟨Nat.le_refl a, ‹_›⟩, ih (a + 1)⟩

/-- LOAD's write keeps memory in canonical form. -/
theorem setBuffer_wf (bytes : List Byte) (s : State) : (setBuffer bytes s).buf.wf = true := bufferFrom_rising bytes 0

theorem reset_wf : State.reset.buf.wf = true := rfl

/-- Below its first address a rising memory lists nothing. -/
theorem memRead_of_rising {lo a : Nat} {m : Memory} (hm : Memory.risingFrom lo m = true) (h : a < lo) :
    memRead m a = unlistedByte := by
  induction m generalizing lo with
  | nil => rfl
  | cons c m ih =>
    simp only [Memory.risingFrom, Bool.and_eq_true, decide_eq_true_eq] at hm
    unfold memRead
    rw [if_neg (by omega)]
    exact ih hm.2 (by omega)

/-- LOAD's memory holds the bytes it was given, and nothing else. -/
theorem memRead_bufferFrom (bytes : List Byte) (a i : Nat) :
    memRead (bufferFrom a bytes) (a + i) = bytes.getD i unlistedByte := by
  induction bytes generalizing a i with
  | nil => rfl
  | cons b bytes ih =>
    cases i with
    | zero =>
      unfold bufferFrom
      split
      · have h := memRead_of_rising (bufferFrom_rising bytes (a + 1)) (Nat.lt_succ_self a)
        simp_all
      · simp [memRead]
    | succ i =>
      have h := ih (a + 1) i
      rw [show a + 1 + i = a + (i + 1) by omega] at h
      unfold bufferFrom
      split
      · simpa using h
      · unfold memRead
        rw [if_neg (by simp), h]
        simp

/-- Every listed address lies inside the buffer. -/
theorem bufferFrom_inside (bytes : List Byte) (a : Nat) : ∀ c ∈ bufferFrom a bytes, c.1 < a + bytes.length := by
  induction bytes generalizing a with
  | nil => simp [bufferFrom]
  | cons b bytes ih =>
    intro c hc
    unfold bufferFrom at hc
    have step : c ∈ bufferFrom (a + 1) bytes → c.1 < a + (b :: bytes).length := fun h => by
      have := ih (a + 1) c h
      simp only [List.length_cons]; omega
    split at hc
    · exact step hc
    · rcases List.mem_cons.1 hc with rfl | h
      · simp
      · exact step h

end Sys2Proof.Machine
end

