-- ==== Sys2Proof/Laws/PerInstr.lean ====
section
/-! SUPPORT. Facts about every command as syntax, one lemma per constructor. -/

namespace Sys2Proof.Laws.FormatC

/-- The opcode R61 assigns to a command. -/
def opcode : Instr → Nat
  | .rdb _ => 0x1
  | .rdf => 0x2
  | .rdue => 0x3
  | .stat => 0x4
  | .serr _ => 0x5
  | .init => 0x6
  | .dsps => 0x8

/-- A well-formed command's word is of format C (R60, R61): its opcode in bits 15:12, zeros in bits 11:7. -/
def Statement (i : Instr) : Prop := wellFormed i = true → opField (encode i) = opcode i ∧ zField (encode i) = 0

theorem rdb (n : Nat) : Statement (.rdb n) := by
  intro h
  obtain ⟨h1, h2⟩ : 1 ≤ n ∧ n ≤ 64 := of_decide_eq_true h
  interval_cases n <;> exact ⟨rfl, rfl⟩

theorem rdf : Statement .rdf := fun _ => ⟨rfl, rfl⟩

theorem rdue : Statement .rdue := fun _ => ⟨rfl, rfl⟩

theorem stat : Statement .stat := fun _ => ⟨rfl, rfl⟩

theorem serr (c : ErrCode) : Statement (.serr c) := by
  intro _
  cases c <;> exact ⟨rfl, rfl⟩

theorem init : Statement .init := fun _ => ⟨rfl, rfl⟩

theorem dsps : Statement .dsps := fun _ => ⟨rfl, rfl⟩

end Sys2Proof.Laws.FormatC
end

