-- ==== Sys2Proof/Laws/Routines.lean ====
section
/-! SUPPORT. What the three routines and the steps of the sequencer can do: `Moves` for each, so that a proof about
DSPS need not unfold them. -/

namespace Sys2Proof.Machine

/-! ### The scaling-list skip and the long-term entries: nothing but the cursor -/

theorem skipCoefficient_moves (k : Nat) (s : State) : Moves recordPart s (skipCoefficient k s) :=
  ((Moves.refl _ s).note recordPart_blind _).skip recordPart_blind .ue

theorem skipDc_moves (sizeId : Nat) (s : State) : Moves recordPart s (skipDc sizeId s) := by
  unfold skipDc; split
  · exact (Moves.refl _ s).skip recordPart_blind .ue
  · exact Moves.refl _ s

theorem skipOneMatrix_moves (sizeId matrixId : Nat) (s : State) :
    Moves recordPart s (skipOneMatrix sizeId matrixId s) := by
  have h : ∀ f g, Moves recordPart s (readTemp .f g (setSeq (.sls .matrix) (noteTemps f s))) := fun f g =>
    (((Moves.refl _ s).note recordPart_blind f).seq recordPart_blind _).temp recordPart_blind .f g
  unfold skipOneMatrix
  simp only
  split
  · exact (((h _ _).seq recordPart_blind _).trans (skipDc_moves sizeId _)).loop skipCoefficient_moves _ 0
  · exact (h _ _).skip recordPart_blind .ue

/-- The skip routine moves the cursor and keeps everything else of the record (R175, R178). -/
theorem scalingListSkip_moves (s : State) : Moves recordPart s (scalingListSkip s) :=
  (Moves.refl _ s).loop (fun sizeId t => (Moves.refl _ t).loop (skipOneMatrix_moves sizeId) _ 0) 4 0

theorem longTermEntry_moves (i : Nat) (s : State) : Moves recordPart s (longTermEntry i s) := by
  unfold longTermEntry
  simp only
  split
  · exact (((Moves.refl _ s).note recordPart_blind _).skip recordPart_blind _).skip recordPart_blind .f
  · exact (((Moves.refl _ s).note recordPart_blind _).error recordPart_blind (by decide)).skip recordPart_blind .f

theorem longTermSkip_moves (count first : Nat) (s : State) : Moves recordPart s (longTermSkip count first s) := by
  induction count generalizing first s with
  | zero => exact Moves.refl _ s
  | succ count ih =>
    unfold longTermSkip
    split
    · rename_i h
      refine ⟨rfl, rfl, rfl, rfl, rfl, Nat.le_refl _, id, fun _ => ⟨rfl, rfl⟩, id, rfl⟩
    · exact (longTermEntry_moves first s).trans (ih (first + 1) _)

/-! ### The reference picture set routine: the cursor, and an entry for the caller -/

theorem readDeltaIdx_moves (idx num : Word) (s : State) : Moves recordPart s (readDeltaIdx idx num s) := by
  have h := ((Moves.refl recordPart s).note recordPart_blind (fun r => { r with deltaIdx := 1 })).seq recordPart_blind
    (.rps .deltaIdx)
  unfold readDeltaIdx
  simp only
  split
  · exact h.temp recordPart_blind .ue _
  · exact h

theorem countDelta_moves (j : Nat) (p : State × RpsEntry) : Moves recordPart p.1 (countDelta j p).1 := by
  unfold countDelta
  simp only
  split
  · exact ((Moves.refl _ p.1).note recordPart_blind _).temp recordPart_blind .f _
  · exact (((Moves.refl _ p.1).note recordPart_blind _).temp recordPart_blind .f _).temp recordPart_blind .f _

theorem predictedCount_moves (idx : Word) (s : State) (e : RpsEntry) :
    Moves recordPart s (predictedCount idx s e).1 := by
  refine Moves.loopEntry countDelta_moves _ 0 e ?_
  exact Moves.seq recordPart_blind _ (.note recordPart_blind _ (.note recordPart_blind _ (.skip recordPart_blind .ue
    (.skip recordPart_blind .f (.seq recordPart_blind _ (.refl _ s))))))

theorem predictedEntry_moves (idx num : Word) (s : State) (e : RpsEntry) :
    Moves recordPart s (predictedEntry idx num s e).1 := by
  have h := (readDeltaIdx_moves idx num s).seq recordPart_blind (.rps .reference)
  unfold predictedEntry
  simp only
  split
  · exact h.error recordPart_blind (by decide)
  · exact h.trans (predictedCount_moves idx _ e)

theorem readS0Pair_moves (i : Nat) (p : State × RpsEntry) : Moves recordPart p.1 (readS0Pair i p).1 :=
  (((Moves.refl _ p.1).note recordPart_blind _).field recordPart_blind .ue).field recordPart_blind .f

theorem readS1Pair_moves (i : Nat) (p : State × RpsEntry) : Moves recordPart p.1 (readS1Pair i p).1 :=
  (((Moves.refl _ p.1).note recordPart_blind _).field recordPart_blind .ue).field recordPart_blind .f

theorem readPairs_moves (s : State) (e : RpsEntry) : Moves recordPart s (readPairs s e).1 :=
  Moves.loopEntry readS1Pair_moves _ 0 _ ((Moves.loopEntry readS0Pair_moves _ 0 _
    ((Moves.refl _ s).seq recordPart_blind _)).seq recordPart_blind _)

theorem explicitEntry_moves (s : State) (e : RpsEntry) : Moves recordPart s (explicitEntry s e).1 := by
  have h := ((((Moves.refl recordPart s).seq recordPart_blind (.rps .counts)).field recordPart_blind .ue).field
    recordPart_blind .ue).seq recordPart_blind (.rps .bound)
  unfold explicitEntry
  simp only
  split
  · exact h.error recordPart_blind (by decide)
  · exact h.trans (readPairs_moves _ _)

theorem readPredictionFlag_moves (idx : Word) (s : State) : Moves recordPart s (readPredictionFlag idx s).1 := by
  unfold readPredictionFlag
  simp only
  split
  · exact (Moves.refl _ s).seq recordPart_blind _
  · exact ((Moves.refl _ s).seq recordPart_blind _).field recordPart_blind .f

/-- The routine changes no record register itself (R160). -/
theorem shortTermRps_moves (idx num : Word) (s : State) : Moves recordPart s (shortTermRps idx num s).1 := by
  have h := readPredictionFlag_moves idx s
  unfold shortTermRps
  simp only
  split
  · exact h.trans (predictedEntry_moves idx num _ _)
  · exact h.trans (explicitEntry_moves _ _)

/-! ### The VUI routine: the cursor, `VUI.*` and `BSR.*` -/

theorem vui_store (s : State) (r : VuiRecord) : besidesVui (setVui r s) = besidesVui s := rfl

theorem bsr_store (s : State) (r : BsrRecord) : besidesVui (setBsr r s) = besidesVui s := rfl

theorem moves_readVui (k : FieldKind) (put : Word → VuiRecord → VuiRecord) (s : State) :
    Moves besidesVui s (readVui k put s) := (Moves.refl _ s).vui besidesVui_blind vui_store k put

theorem moves_readBsr (k : FieldKind) (put : Word → BsrRecord → BsrRecord) (s : State) :
    Moves besidesVui s (readBsr k put s) := (Moves.refl _ s).bsr besidesVui_blind bsr_store k put

theorem moves_vuiSeq (q : Seq) (s : State) : Moves besidesVui s (setSeq q s) := (Moves.refl _ s).seq besidesVui_blind q

/-- Every VUI group opens with a state of `SEQ` and a flag. -/
theorem moves_openGroup (q : Seq) (put : Word → VuiRecord → VuiRecord) (s : State) :
    Moves besidesVui s (readVui .f put (setSeq q s)) := (moves_vuiSeq q s).trans (moves_readVui .f put _)

theorem applySarLookup_moves (s : State) : Moves besidesVui s (applySarLookup s) := by
  unfold applySarLookup
  split
  · exact .ofStore rfl rfl
  · exact moves_recordError besidesVui_blind (by decide) s

theorem readSar_moves (s : State) : Moves besidesVui s (readSar s) := by
  unfold readSar
  split
  · exact (moves_readVui _ _ s).trans (moves_readVui _ _ _)
  · exact applySarLookup_moves s

theorem vuiAspectRatio_moves (s : State) : Moves besidesVui s (vuiAspectRatio s) := by
  unfold vuiAspectRatio
  simp only
  split
  · exact ((moves_openGroup _ _ s).trans (moves_readVui _ _ _)).trans (readSar_moves _)
  · exact moves_openGroup _ _ s

theorem vuiOverscan_moves (s : State) : Moves besidesVui s (vuiOverscan s) := by
  unfold vuiOverscan
  simp only
  split
  · exact (moves_openGroup _ _ s).trans (moves_readVui _ _ _)
  · exact moves_openGroup _ _ s

theorem vuiSignalFields_moves (s : State) : Moves besidesVui s (vuiSignalFields s) := by
  have h : ∀ k₁ k₂ k₃ p₁ p₂ p₃ (t : State), Moves besidesVui t (readVui k₃ p₃ (readVui k₂ p₂ (readVui k₁ p₁ t))) :=
    fun k₁ k₂ k₃ p₁ p₂ p₃ t => ((moves_readVui k₁ p₁ t).trans (moves_readVui k₂ p₂ _)).trans (moves_readVui k₃ p₃ _)
  unfold vuiSignalFields
  simp only
  split
  · exact (h _ _ _ _ _ _ s).trans (h _ _ _ _ _ _ _)
  · exact h _ _ _ _ _ _ s

theorem vuiVideoSignal_moves (s : State) : Moves besidesVui s (vuiVideoSignal s) := by
  unfold vuiVideoSignal
  simp only
  split
  · exact (moves_openGroup _ _ s).trans (vuiSignalFields_moves _)
  · exact moves_openGroup _ _ s

theorem vuiChromaLocation_moves (s : State) : Moves besidesVui s (vuiChromaLocation s) := by
  unfold vuiChromaLocation
  simp only
  split
  · exact ((moves_openGroup _ _ s).trans (moves_readVui _ _ _)).trans (moves_readVui _ _ _)
  · exact moves_openGroup _ _ s

theorem vuiThreeFlags_moves (s : State) : Moves besidesVui s (vuiThreeFlags s) :=
  ((moves_openGroup _ _ s).trans (moves_readVui _ _ _)).trans (moves_readVui _ _ _)

theorem vuiDisplayWindow_moves (s : State) : Moves besidesVui s (vuiDisplayWindow s) := by
  unfold vuiDisplayWindow
  simp only
  split
  · exact ((((moves_openGroup _ _ s).trans (moves_readVui _ _ _)).trans (moves_readVui _ _ _)).trans
      (moves_readVui _ _ _)).trans (moves_readVui _ _ _)
  · exact moves_openGroup _ _ s

theorem vuiPocProportional_moves (s : State) : Moves besidesVui s (vuiPocProportional s) := by
  unfold vuiPocProportional
  simp only
  split
  · exact (moves_openGroup _ _ s).trans (moves_readVui _ _ _)
  · exact moves_openGroup _ _ s

theorem vuiHrdFlag_moves (s : State) : Moves besidesVui s (vuiHrdFlag s) := moves_openGroup _ _ s

theorem vuiTiming_moves (s : State) : Moves besidesVui s (vuiTiming s) := by
  unfold vuiTiming
  simp only
  split
  · exact ((((moves_openGroup _ _ s).trans (moves_readVui _ _ _)).trans (moves_readVui _ _ _)).trans
      (vuiPocProportional_moves _)).trans (vuiHrdFlag_moves _)
  · exact moves_openGroup _ _ s

theorem vuiRestrictions_moves (s : State) : Moves besidesVui s (vuiRestrictions s) :=
  ((((((((moves_vuiSeq _ s).trans (moves_readBsr _ _ _)).trans (moves_readBsr _ _ _)).trans (moves_readBsr _ _ _)).trans
    (moves_readBsr _ _ _)).trans (moves_readBsr _ _ _)).trans (moves_readBsr _ _ _)).trans (moves_readBsr _ _ _)).trans
    (moves_readBsr _ _ _)

theorem vuiRestrictionFlag_moves (s : State) : Moves besidesVui s (vuiRestrictionFlag s) := by
  unfold vuiRestrictionFlag
  simp only
  split
  · exact (moves_openGroup _ _ s).trans (vuiRestrictions_moves _)
  · exact moves_openGroup _ _ s

theorem vuiGroups_moves (s : State) : Moves besidesVui s (vuiGroups s) :=
  ((((((vuiAspectRatio_moves s).trans (vuiOverscan_moves _)).trans (vuiVideoSignal_moves _)).trans
    (vuiChromaLocation_moves _)).trans (vuiThreeFlags_moves _)).trans (vuiDisplayWindow_moves _)).trans
    (vuiTiming_moves _)

/-- The VUI routine writes only `VUI.*` and `BSR.*` of the record (R180). -/
theorem vuiParameters_moves (s : State) : Moves besidesVui s (vuiParameters s) := by
  unfold vuiParameters
  simp only
  split
  · exact vuiGroups_moves s
  · exact (vuiGroups_moves s).trans (vuiRestrictionFlag_moves _)

/-! ### The steps -/

theorem sps_store (s : State) (r : SpsRecord) : besidesSps (setSps r s) = besidesSps s := rfl

theorem moves_readSps (k : FieldKind) (put : Word → SpsRecord → SpsRecord) (s : State) :
    Moves besidesSps s (readSps k put s) := (Moves.refl _ s).sps besidesSps_blind sps_store k put

/-- The first read of a step. -/
theorem moves_openStep (q : Seq) (k : FieldKind) (put : Word → SpsRecord → SpsRecord) (s : State) :
    Moves besidesSps s (readSps k put (setSeq q s)) :=
  ((Moves.refl _ s).seq besidesSps_blind q).trans (moves_readSps k put _)

theorem readNalHeader_moves (s : State) : Moves besidesSps s (readNalHeader s) :=
  ((((Moves.refl besidesSps s).seq besidesSps_blind .q1).temp besidesSps_blind _ _)).trans (.ofStore rfl rfl)

theorem seqQ2_moves (s : State) : Moves besidesSps s (seqQ2 s) :=
  ((moves_openStep _ _ _ s).trans (moves_readSps _ _ _)).trans (moves_readSps _ _ _)

theorem readPtl_moves (s : State) : Moves besidesSps s (readPtl s) :=
  (((((moves_openStep _ _ _ s).trans (moves_readSps _ _ _)).trans (moves_readSps _ _ _)).trans
    (moves_readSps _ _ _)).trans (moves_readSps _ _ _)).trans (moves_readSps _ _ _)

theorem seqQ4_moves (s : State) : Moves besidesSps s (seqQ4 s) := by
  unfold seqQ4
  simp only
  split
  · exact ((moves_openStep _ _ _ s).trans (moves_readSps _ _ _)).trans (moves_readSps _ _ _)
  · exact (moves_openStep _ _ _ s).trans (moves_readSps _ _ _)

theorem readConfWindow_moves (s : State) : Moves besidesSps s (readConfWindow s) :=
  (((moves_readSps _ _ s).trans (moves_readSps _ _ _)).trans (moves_readSps _ _ _)).trans (moves_readSps _ _ _)

theorem seqQ5_moves (s : State) : Moves besidesSps s (seqQ5 s) := by
  unfold seqQ5
  simp only
  split
  · exact (((moves_openStep _ _ _ s).trans (moves_readSps _ _ _)).trans (moves_readSps _ _ _)).trans
      (readConfWindow_moves _)
  · exact ((moves_openStep _ _ _ s).trans (moves_readSps _ _ _)).trans (moves_readSps _ _ _)

theorem seqQ6_moves (s : State) : Moves besidesSps s (seqQ6 s) :=
  ((moves_openStep _ _ _ s).trans (moves_readSps _ _ _)).trans (moves_readSps _ _ _)

theorem seqQ8_moves (s : State) : Moves besidesSps s (seqQ8 s) :=
  (((((moves_openStep _ _ _ s).trans (moves_readSps _ _ _)).trans (moves_readSps _ _ _)).trans
    (moves_readSps _ _ _)).trans (moves_readSps _ _ _)).trans (moves_readSps _ _ _)

theorem readScalingData_moves (s : State) : Moves besidesSps s (readScalingData s) := by
  unfold readScalingData
  simp only
  split
  · exact ((moves_readSps _ _ s).trans (scalingListSkip_moves _).toSps).seq besidesSps_blind _
  · exact moves_readSps _ _ s

theorem seqQ9_moves (s : State) : Moves besidesSps s (seqQ9 s) := by
  unfold seqQ9
  simp only
  split
  · exact (moves_openStep _ _ _ s).trans (readScalingData_moves _)
  · exact moves_openStep _ _ _ s

theorem readPcm_moves (s : State) : Moves besidesSps s (readPcm s) :=
  ((((moves_readSps _ _ s).trans (moves_readSps _ _ _)).trans (moves_readSps _ _ _)).trans (moves_readSps _ _ _)).trans
    (moves_readSps _ _ _)

theorem seqQ10_moves (s : State) : Moves besidesSps s (seqQ10 s) := by
  unfold seqQ10
  simp only
  split
  · exact (((moves_openStep _ _ _ s).trans (moves_readSps _ _ _)).trans (moves_readSps _ _ _)).trans (readPcm_moves _)
  · exact ((moves_openStep _ _ _ s).trans (moves_readSps _ _ _)).trans (moves_readSps _ _ _)

theorem readLongTermEntries_moves (s : State) : Moves besidesSps s (readLongTermEntries s) :=
  ((Moves.refl besidesSps s).temp besidesSps_blind .ue _).trans (longTermSkip_moves _ 0 _).toSps

theorem seqQ12_moves (s : State) : Moves besidesSps s (seqQ12 s) := by
  unfold seqQ12
  simp only
  split
  · exact (moves_openStep _ _ _ s).trans (readLongTermEntries_moves _)
  · exact moves_openStep _ _ _ s

/-- What steps Q7, Q11 and Q13 keep of the record between them. -/
def untouched (_ : State) : Unit := ()

theorem untouched_blind : CursorBlind untouched := fun _ _ _ _ _ _ => rfl

/-- What keeps some of the record at least keeps none of it. -/
theorem Moves.weaken {β : Type} {kept : State → β} {s t : State} (h : Moves kept s t) : Moves untouched s t :=
  ⟨h.buf, h.len, h.params, h.inputs, h.freeTick, h.pos_le, h.inside, h.latched, h.notFive, rfl⟩

theorem readSloiEntry_moves (i : Nat) (s : State) : Moves untouched s (readSloiEntry i s) :=
  Moves.trans (.field untouched_blind .ue (.field untouched_blind .ue (.field untouched_blind .ue
    (.note untouched_blind _ (.refl _ s))))) (.ofStore rfl rfl)

theorem seqQ7_moves (s : State) : Moves untouched s (seqQ7 s) :=
  (moves_openStep _ _ _ s).weaken.loop readSloiEntry_moves _ _

theorem appendRpsEntry_moves (idx : Word) (s : State) : Moves untouched s (appendRpsEntry idx s) :=
  (((Moves.refl untouched s).note untouched_blind _).trans (shortTermRps_moves idx _ _).weaken).trans (.ofStore rfl rfl)

theorem rpsLoop_moves (count : Nat) (idx : Word) (s : State) :
    Moves untouched s (walkState (rpsLoop count idx s)) := by
  induction count generalizing idx s with
  | zero => exact Moves.refl _ s
  | succ count ih =>
    unfold rpsLoop
    simp only
    split
    · exact (appendRpsEntry_moves idx s).trans (.ofStore rfl rfl)
    · exact (appendRpsEntry_moves idx s).trans (ih (idx + 1) _)

theorem seqQ11_moves (s : State) : Moves untouched s (walkState (seqQ11 s)) :=
  (moves_openStep _ _ _ s).weaken.trans (rpsLoop_moves _ 0 _)

theorem seqQ13_moves (s : State) : Moves untouched s (seqQ13 s) := by
  have h : ∀ p₁ p₂ p₃, Moves untouched s (readSps .f p₃ (readSps .f p₂ (readSps .f p₁ (setSeq .q13 s)))) :=
    fun p₁ p₂ p₃ =>
      (((moves_openStep _ _ p₁ s).trans (moves_readSps .f p₂ _)).trans (moves_readSps .f p₃ _)).weaken
  unfold seqQ13
  simp only
  split
  · exact ((h _ _ _).trans (vuiParameters_moves _).weaken).seq untouched_blind _
  · exact h _ _ _

theorem seqQ4toQ10_moves (s : State) : Moves untouched s (seqQ4toQ10 s) :=
  ((((((seqQ4_moves s).trans (seqQ5_moves _)).trans (seqQ6_moves _)).weaken.trans (seqQ7_moves _)).trans
    (seqQ8_moves _).weaken).trans (seqQ9_moves _).weaken).trans (seqQ10_moves _).weaken

theorem moves_setResult (e : ErrCode) (s : State) : Moves untouched s (setResult e s) := .ofStore rfl rfl

theorem moves_setRecValid (b : Bool) (s : State) : Moves untouched s (setRecValid b s) := .ofStore rfl rfl

theorem moves_reportLatch (s : State) : Moves untouched s (reportLatch s) := moves_setResult s.err s

theorem seqQ14_moves (s : State) : Moves untouched s (seqQ14 s) :=
  ((Moves.refl _ s).seq untouched_blind .q14).trans (moves_reportLatch _)

theorem seqQ12toQ14_moves (s : State) : Moves untouched s (seqQ12toQ14 s) :=
  ((seqQ12_moves s).weaken.trans (seqQ13_moves _)).trans (seqQ14_moves _)

theorem seqQ1_moves (s : State) : Moves untouched s (walkState (seqQ1 s)) := by
  unfold seqQ1
  simp only
  split
  · exact (readNalHeader_moves s).weaken.trans (moves_setRecValid true _)
  · exact ((readNalHeader_moves s).weaken.trans (moves_setResult _ _)).trans (moves_setRecValid false _)

theorem seqQ3_moves (s : State) : Moves untouched s (walkState (seqQ3 s)) := by
  unfold seqQ3
  simp only
  split
  · exact (readPtl_moves s).weaken.trans (moves_setResult _ _)
  · exact (readPtl_moves s).weaken

/-- One step after another. -/
theorem moves_andThen {s : State} {w : Walk} {f : State → Walk} (hw : Moves untouched s (walkState w))
    (hf : ∀ t, Moves untouched t (walkState (f t))) : Moves untouched s (walkState (andThen w f)) := by
  cases w with
  | go t => exact hw.trans (hf t)
  | stop t => exact hw

theorem walkFromQ11_moves (s : State) :
    Moves untouched s (walkState (andThen (seqQ11 (seqQ4toQ10 s)) fun c => .stop (seqQ12toQ14 c))) :=
  moves_andThen (Moves.trans (seqQ4toQ10_moves s) (seqQ11_moves (seqQ4toQ10 s))) fun c => seqQ12toQ14_moves c

theorem walkFromQ2_moves (s : State) :
    Moves untouched s (walkState (andThen (seqQ3 (seqQ2 s)) fun b =>
      andThen (seqQ11 (seqQ4toQ10 b)) fun c => .stop (seqQ12toQ14 c))) :=
  moves_andThen (Moves.trans (seqQ2_moves s).weaken (seqQ3_moves (seqQ2 s))) walkFromQ11_moves

/-- The walk keeps the buffer, never leaves the stream and never moves back (R11, R16, R94). -/
theorem walkSps_moves (s : State) : Moves untouched s (walkState (walkSps s)) := by
  unfold walkSps
  exact moves_andThen (seqQ1_moves s) walkFromQ2_moves

end Sys2Proof.Machine
end

