-- ==== Sys2Proof/Laws/Sequencer.lean ====
section
/-! SUPPORT. Where the walk can end, said once (R206, R210), and what step Q11's loop does. -/

namespace Sys2Proof.Machine

/-- Step Q11's loop, for a property of states: what appending an entry keeps, the loop keeps. The entries are numbered
from `idx`, so the property may speak of the number of the next one. -/
theorem rpsLoop_keeps {P : Word → State → Prop} (happ : ∀ idx s, P idx s → P (idx + 1) (appendRpsEntry idx s))
    (count : Nat) (idx : Word) (s : State) (h : P idx s) :
    ∃ n t, n ≤ count ∧ P (idx + BitVec.ofNat 64 n) t ∧
      ((rpsLoop count idx s = .go t ∧ n = count ∧ (count = 0 → t = s) ∧ (0 < count → t.err = .ok)) ∨
        (rpsLoop count idx s = .stop (reportLatch t) ∧ 0 < n ∧ t.err ≠ .ok)) := by
  induction count generalizing idx s with
  | zero => exact ⟨0, s, Nat.le_refl _, by simpa using h, .inl ⟨rfl, rfl, fun _ => rfl, fun h => absurd h (by omega)⟩⟩
  | succ count ih =>
    have h1 := happ idx s h
    by_cases hf : failed (appendRpsEntry idx s) = true
    · refine ⟨1, _, by omega, h1, .inr ⟨?_, by omega, (failed_iff _).1 hf⟩⟩
      simp only [rpsLoop, hf, if_true]
    · obtain ⟨n, t, hn, ht, hc⟩ := ih (idx + 1) _ h1
      have hr : rpsLoop (count + 1) idx s = rpsLoop count (idx + 1) (appendRpsEntry idx s) := by
        simp only [rpsLoop, hf]; rfl
      have hidx : idx + 1 + BitVec.ofNat 64 n = idx + BitVec.ofNat 64 (n + 1) := by
        rw [BitVec.add_assoc, Nat.add_comm n 1, BitVec.ofNat_add]; rfl
      refine ⟨n + 1, t, by omega, by rwa [← hidx], ?_⟩
      rw [hr]
      rcases hc with ⟨g, hn', h0, hp⟩ | ⟨g, h0, he⟩
      · refine .inl ⟨g, by omega, fun h => absurd h (by omega), fun _ => ?_⟩
        rcases Nat.eq_zero_or_pos count with hz | hz
        · rw [h0 hz]; exact (not_failed_iff _).1 (by simpa using hf)
        · exact hp hz
      · exact .inr ⟨g, by omega, he⟩

/-- The state of a walk after step Q1's type check has passed. -/
def afterQ1 (s : State) : State := setRecValid true (readNalHeader s)

/-- The state after the ProfileTierLevel. -/
def afterPtl (s : State) : State := readPtl (seqQ2 (afterQ1 s))

theorem seqQ1_of_sps (s : State) (h : isSpsUnit (readNalHeader s) = true) : seqQ1 s = .go (afterQ1 s) := by
  unfold seqQ1 afterQ1; generalize readNalHeader s = t at h ⊢; simp only [h, if_true]

theorem seqQ1_of_other (s : State) (h : isSpsUnit (readNalHeader s) = false) :
    seqQ1 s = .stop (setRecValid false (setResult .wrongUnitType (readNalHeader s))) := by
  unfold seqQ1; generalize readNalHeader s = t at h ⊢; simp only [h, Bool.false_eq_true, if_false]

theorem seqQ3_of_zero (s : State) (h : (readPtl s).sps.maxSubLayersMinus1 = 0) : seqQ3 s = .go (readPtl s) := by
  unfold seqQ3; generalize readPtl s = t at h ⊢; simp only [h, ne_eq, not_true_eq_false, if_false]

theorem seqQ3_of_ne_zero (s : State) (h : (readPtl s).sps.maxSubLayersMinus1 ≠ 0) :
    seqQ3 s = .stop (setResult .ok (readPtl s)) := by
  unfold seqQ3; generalize readPtl s = t at h ⊢; simp only [h, ne_eq, not_false_eq_true, if_true]

/-- Where the walk can end (R206, R210): the unit-type check, the sub-layer exit, the checkpoint in step Q11, or
step Q14. -/
theorem walkSps_cases (s : State) :
    (isSpsUnit (readNalHeader s) = false ∧
      walkState (walkSps s) = setRecValid false (setResult .wrongUnitType (readNalHeader s))) ∨
    (isSpsUnit (readNalHeader s) = true ∧ (afterPtl s).sps.maxSubLayersMinus1 ≠ 0 ∧
      walkState (walkSps s) = setResult .ok (afterPtl s)) ∨
    (isSpsUnit (readNalHeader s) = true ∧ (afterPtl s).sps.maxSubLayersMinus1 = 0 ∧
      ∃ t, seqQ11 (seqQ4toQ10 (afterPtl s)) = .stop t ∧ walkState (walkSps s) = t) ∨
    (isSpsUnit (readNalHeader s) = true ∧ (afterPtl s).sps.maxSubLayersMinus1 = 0 ∧
      ∃ t, seqQ11 (seqQ4toQ10 (afterPtl s)) = .go t ∧ walkState (walkSps s) = seqQ12toQ14 t) := by
  cases hu : isSpsUnit (readNalHeader s) with
  | false => left; refine ⟨rfl, ?_⟩; rw [walkSps, seqQ1_of_other s hu]; simp only [andThen, walkState]
  | true =>
    right
    have hp : readPtl (seqQ2 (afterQ1 s)) = afterPtl s := rfl
    have hw : walkSps s = andThen (seqQ3 (seqQ2 (afterQ1 s))) fun b =>
        andThen (seqQ11 (seqQ4toQ10 b)) fun c => .stop (seqQ12toQ14 c) := by
      rw [walkSps, seqQ1_of_sps s hu]; simp only [andThen]
    rw [hw]
    by_cases hm : (afterPtl s).sps.maxSubLayersMinus1 = 0
    · right
      rw [seqQ3_of_zero _ (by rw [hp]; exact hm), hp]
      generalize afterPtl s = p at hm ⊢
      cases h11 : seqQ11 (seqQ4toQ10 p) with
      | stop t => exact .inl ⟨rfl, hm, t, rfl, by simp only [andThen, h11, walkState]⟩
      | go t => exact .inr ⟨rfl, hm, t, rfl, by simp only [andThen, h11, walkState]⟩
    · left
      refine ⟨rfl, hm, ?_⟩
      rw [seqQ3_of_ne_zero _ (by rw [hp]; exact hm), hp]
      simp only [andThen, walkState]

end Sys2Proof.Machine
end

