-- ==== Sys2Proof/Tests/Slice0.lean ====
section
/-! SUPPORT. The model's own tests: decoding of words written out bit by bit, a few single steps with the results of
95_test_vectors.md, and for every statement with hypotheses a state and operands that meet them. -/

namespace Sys2Proof.Machine

/-- The reset state after a LOAD of `bytes`, with the cursor moved to `pos`. -/
def loaded (bytes : List Byte) (pos : Nat := 0) : State := setPos pos (loadBuffer bytes State.reset)

/-- The same with an error latched. -/
def latched (e : ErrCode) (bytes : List Byte) (pos : Nat := 0) : State := setErr e (loaded bytes pos)

/-- A state whose host is about to do `a`. -/
def about (a : HostAction) : State := giveFirst a (loaded [0xA5, 0x3C])

/-! ### WellFormed: a term that is not a command, for each check -/

theorem test_rdb_zero_is_ill_formed : wellFormed (.rdb 0) = false := by decide

theorem test_rdb_65_is_ill_formed : wellFormed (.rdb 65) = false := by decide

theorem test_serr_ok_is_ill_formed : wellFormed (.serr .ok) = false := by decide

theorem test_bounds_are_well_formed :
    wellFormed (.rdb 1) = true ∧ wellFormed (.rdb 64) = true ∧ wellFormed (.serr .truncated) = true ∧
      wellFormed (.serr .wrongUnitType) = true := by decide

/-! ### Decoding: `op` (4 bits), `z` (5 bits), `arg` (7 bits), written out from R60 and R61 -/

theorem test_decode_rdb_16 : decode 0b0001_00000_0010000 = .ok (.rdb 16) := by rfl

theorem test_decode_rdb_bounds :
    decode 0b0001_00000_0000001 = .ok (.rdb 1) ∧ decode 0b0001_00000_1000000 = .ok (.rdb 64) := ⟨rfl, rfl⟩

theorem test_decode_rdf : decode 0b0010_00000_0000000 = .ok .rdf := by rfl

theorem test_decode_rdue : decode 0b0011_00000_0000000 = .ok .rdue := by rfl

theorem test_decode_stat : decode 0b0100_00000_0000000 = .ok .stat := by rfl

theorem test_decode_serr :
    decode 0b0101_00000_0000001 = .ok (.serr .truncated) ∧ decode 0b0101_00000_0000010 = .ok (.serr .malformed) ∧
    decode 0b0101_00000_0000011 = .ok (.serr .tooManyReferencePictures) ∧
    decode 0b0101_00000_0000100 = .ok (.serr .unknownAspectRatioIDC) ∧
    decode 0b0101_00000_0000101 = .ok (.serr .wrongUnitType) := ⟨rfl, rfl, rfl, rfl, rfl⟩

theorem test_decode_init : decode 0b0110_00000_0000000 = .ok .init := by rfl

theorem test_decode_dsps : decode 0b1000_00000_0000000 = .ok .dsps := by rfl

/-- V10 to V13: the operand's two bounds, and one bit of `z`. -/
theorem test_illegal_rdb :
    decode 0x1000 = .error .badArgument ∧ decode 0x1041 = .error .badArgument ∧ decode 0x107F = .error .badArgument ∧
      decode 0x1080 = .error .reservedBits := ⟨rfl, rfl, rfl, rfl⟩

/-- V14 to V17. -/
theorem test_illegal_others :
    decode 0x2001 = .error .badArgument ∧ decode 0x5000 = .error .badArgument ∧ decode 0x5006 = .error .badArgument ∧
      decode 0x5008 = .error .badArgument ∧ decode 0x0000 = .error .unassignedOpcode ∧
      decode 0x7000 = .error .unassignedOpcode ∧ decode 0xF000 = .error .unassignedOpcode ∧
      decode 0x8001 = .error .badArgument ∧ decode 0x8800 = .error .reservedBits :=
  ⟨rfl, rfl, rfl, rfl, rfl, rfl, rfl, rfl, rfl⟩

/-! ### Single commands (95_test_vectors.md 2.2 and 2.3) -/

/-- V20a: 13 bits across a byte boundary, to the last bit. -/
theorem test_rdb_crosses_a_byte : exec (.rdb 13) (loaded [0xA5, 0x3C] 3) =
    .next { loaded [0xA5, 0x3C] 3 with val := 0x053C, pos := 16 } := by rfl

/-- V24a: full width, unaligned. -/
theorem test_rdb_64_unaligned :
    ∃ t, exec (.rdb 64) (loaded [0xDE, 0xAD, 0xBE, 0xEF, 0x01, 0x23, 0x45, 0x67, 0x89] 4) = .next t ∧
      t.val = 0xEADBEEF012345678 ∧ t.pos = 68 :=
  ⟨readBits 64 (loaded [0xDE, 0xAD, 0xBE, 0xEF, 0x01, 0x23, 0x45, 0x67, 0x89] 4), rfl, by decide +kernel, by decide +kernel⟩

/-- V29a: the second bit of `80` is 0. -/
theorem test_rdf_zero : exec .rdf (loaded [0x80] 1) = .next { loaded [0x80] 1 with val := 0, pos := 2 } := by rfl

/-- V27a: an empty buffer. -/
theorem test_rdf_empty : exec .rdf (loaded []) = .next { loaded [] with err := .truncated, val := 0 } := by rfl

/-- V30: the largest legal codeword. -/
theorem test_rdue_largest :
    ∃ t, exec .rdue (loaded [0x00, 0x00, 0x00, 0x00, 0xFF, 0xFF, 0xFF, 0xFF, 0x80]) = .next t ∧
      t.val = 8589934590 ∧ t.pos = 65 ∧ t.err = .ok := ⟨_, rfl, by decide, by decide, by decide⟩

/-- V29: 33 zeros are malformed, although a longer codeword follows. -/
theorem test_rdue_too_long :
    ∃ t, exec .rdue (loaded [0x00, 0x00, 0x00, 0x00, 0x7F, 0xFF, 0xFF, 0xFF, 0xFF]) = .next t ∧
      t.val = 0 ∧ t.pos = 0 ∧ t.err = .malformed := ⟨_, rfl, by decide, by decide, by decide⟩

/-- V31a: the latch does not zero STAT's answer. -/
theorem test_stat_latched : exec .stat (latched .malformed [0xFF, 0xFF] 9) =
    .next { latched .malformed [0xFF, 0xFF] 9 with val := 2 } := by rfl

/-- V34a: the first error wins. -/
theorem test_serr_first_wins :
    ∃ t, exec (.serr .malformed) (latched .unknownAspectRatioIDC [0xFF, 0xFF] 4) = .next t ∧
      t.err = .unknownAspectRatioIDC ∧ t.pos = 4 := ⟨_, rfl, by decide, by decide⟩

/-- V35a. -/
theorem test_init_clears : exec .init (latched .unknownAspectRatioIDC [0xFF, 0xFF] 4) =
    .next { loaded [0xFF, 0xFF] with val := 0 } := by rfl

/-- V37a: LOAD re-creates the cursor; `RESULT` and `REC_VALID` stay. -/
theorem test_load :
    ∃ t, step { latched .truncated [0xFF] 7 with
        result := .tooManyReferencePictures, recValid := true, inputs := [.load [0x12, 0x34]] } = .next t ∧
      t.len = 2 ∧ t.pos = 0 ∧ t.err = .ok ∧ t.result = .tooManyReferencePictures ∧ t.recValid = true ∧
      memRead t.buf 1 = 0x34 := ⟨_, rfl, by decide, by decide, by decide, by decide, by decide, by decide⟩

/-! ### The routines (2.4 to 2.6) -/

/-- The entry `E0` of 95_test_vectors.md 2.4. -/
def sampleEntry : RpsEntry where
  numNegativePics := 2
  numPositivePics := 1
  numDeltaPocs := 3
  s0 := [(1, true), (2, false)]
  s1 := [(4, true)]

/-- V40: an explicit entry. -/
theorem test_rps_explicit : (shortTermRps 0 2 (loaded [0x6B, 0x42, 0x40])).2 = sampleEntry ∧
    (shortTermRps 0 2 (loaded [0x6B, 0x42, 0x40])).1.pos = 18 := by decide +kernel

/-- V44: the slice-header context takes the count of the entry two back. -/
theorem test_rps_slice_context :
    let p := shortTermRps 2 2 { loaded [0xA7, 0x80] with rps := [sampleEntry, { interFlag := true, numDeltaPocs := 2 }] }
    p.2 = { interFlag := true, numDeltaPocs := 3 } ∧ p.1.pos = 9 := by decide +kernel

/-- V54: a matrix of size class 2 has a DC value and 64 coefficients. -/
theorem test_scaling_dc :
    (scalingListSkip (loaded [0x55, 0x55, 0x55, 0x89, 0xFF, 0xFF, 0xFF, 0xFF, 0xFF, 0xFF, 0xFF, 0xFF, 0x55, 0x54])).pos =
      110 := by decide +kernel

/-- V65: a negative width wraps. -/
theorem test_geom_wraps :
    geomDispWidth { State.reset with
      sps := { chromaFormatIdc := 1, picWidth := 16, picHeight := 16, window := { left := 5, right := 6 } } } =
      0xFFFFFFFFFFFFFFFA := by decide

/-! ### DSPS -/

/-- The bytes of program P3, the minimal valid SPS. -/
def minimalSps : List Byte :=
  [0x42, 0x01, 0x01, 0x01, 0x60, 0x00, 0x00, 0x00, 0x90, 0x00, 0x00, 0x00, 0x00, 0x00, 0x78, 0xA0] ++
  [0x03, 0xC0, 0x80, 0x11, 0x07, 0xCB, 0x96, 0x56, 0x69, 0x24, 0xCA, 0xD0]

/-- The bytes of program P6: two reference picture sets, two long-term entries, a full VUI. -/
def fullSps : List Byte :=
  minimalSps.take 26 ++
  [0xC9, 0xB5, 0xA1, 0x36, 0x97, 0x57, 0xCD, 0x7F, 0xF8, 0x00, 0x20, 0x00, 0x1B, 0x70, 0x91, 0x00] ++
  [0x9B, 0x62, 0x99, 0x0B, 0x00, 0x00, 0x03, 0xE9, 0x00, 0x00, 0xEA, 0x60, 0xDD, 0x68, 0x20, 0x10, 0x80]

/-- The state a DSPS of `bytes` leaves. -/
def dspsOf (bytes : List Byte) : State := decodeSps (loaded bytes)

/-- P3. -/
theorem test_dsps_minimal :
    let t := dspsOf minimalSps
    t.pos = 219 ∧ t.err = .ok ∧ t.val = 0 ∧ t.result = .ok ∧ t.recValid = true ∧ t.seq = .done ∧
      t.sps.picWidth = 1920 ∧ t.sps.log2MaxPocLsbMinus4 = 4 ∧ t.sloi = [⟨4, 2, 5⟩] ∧ t.rps = [] ∧
      geomDispWidth t = 1920 ∧ geomDispHeight t = 1080 := by decide +kernel

/-- P6. -/
theorem test_dsps_full :
    let t := dspsOf fullSps
    t.pos = 464 ∧ t.err = .ok ∧ t.rps = [sampleEntry, { interFlag := true, numDeltaPocs := 2 }] ∧
      t.vui.aspectRatioIdc = 255 ∧ t.vui.sarHeight = 3 ∧ t.vui.matrixCoeffs = 9 ∧ t.vui.timeScale = 60000 ∧
      t.bsr.log2MaxMvLengthVertical = 15 := by decide +kernel

/-! ### Witnesses: every statement's hypotheses can be met -/

theorem witness_DecodeInvertsEncode :
    wellFormed (.rdb 1) = true ∧ wellFormed (.rdb 64) = true ∧ wellFormed (.serr .wrongUnitType) = true := by decide

theorem witness_EncodeInvertsDecode : decode 0x1040 = .ok (.rdb 64) ∧ decode 0x5005 = .ok (.serr .wrongUnitType) :=
  ⟨rfl, rfl⟩

theorem witness_DecodeFollowsTheTable :
    (0x1080 : CmdWord) &&& 0x0F80 ≠ 0 ∧ (0x1040 : CmdWord) &&& 0xFF80 = 0x1000 ∧
      (0x5005 : CmdWord) &&& 0xFFF8 = 0x5000 := by decide

theorem witness_StepRunsDecodedCommand :
    (about (.command 0x1003)).inputs = [.command 0x1003] ∧ decode 0x1003 = .ok (.rdb 3) := ⟨rfl, rfl⟩

theorem witness_IllegalWordIsRefused :
    (about (.command 0x1041)).inputs = [.command 0x1041] ∧ decode 0x1041 = .error .badArgument := ⟨rfl, rfl⟩

theorem witness_IdleBlockDoesNothing : (loaded [0xA5]).inputs = [] := rfl

theorem witness_LoadHandsOverABuffer :
    (about (.load [0x00, 0x12])).inputs = [.load [0x00, 0x12]] ∧ (about (.load [])).inputs = [.load []] := ⟨rfl, rfl⟩

theorem witness_ResetActionResets : (about .reset).inputs = [.reset] := rfl

/-- The last byte of the buffer, and the address after it. -/
theorem witness_HostReadChangesNothing :
    (about (.read (.bufByte 1))).inputs = [.read (.bufByte 1)] ∧ hostRead (loaded [0xA5, 0x3C]) (.bufByte 1) ≠ none ∧
    (about (.read (.bufByte 2))).inputs = [.read (.bufByte 2)] ∧
      hostRead (loaded [0xA5, 0x3C]) (.bufByte 2) = none := by decide

/-- An entry of `RPS` and one of `SLOI`, the first register no row carries, and the entry past the end. -/
theorem witness_HostReadChangesNothing_entries :
    let s := { loaded [0xA5] with rps := [sampleEntry], sloi := [⟨4, 2, 5⟩] }
    0 < s.rps.length ∧ 0 < s.sloi.length ∧ hostRead s (.rps 0 (.s0Delta 1)) = some (.number 2) ∧
      hostRead s (.sloi 0 2) = some (.number 5) ∧ hostRead s (.register 45) = none ∧
      hostRead s (.register 138) = some (.number 0) ∧ hostRead s (.rps 1 .interFlag) = none ∧
      hostRead s (.sloi 1 0) = none := by decide

/-- Each of the three cases, at the boundary between the last two. -/
theorem witness_RdbResult :
    (1 ≤ 9 ∧ 9 ≤ 64 ∧ (latched .malformed [0xA5]).err ≠ .ok) ∧
    ((loaded [0xA5]).err = .ok ∧ 8 * (loaded [0xA5]).len - (loaded [0xA5]).pos < 9) ∧
    (1 ≤ 8 ∧ 8 ≤ 64 ∧ ¬ 8 * (loaded [0xA5]).len - (loaded [0xA5]).pos < 8) := by decide

theorem witness_RdbValueBits :
    (loaded [0xA5, 0x3C] 3).err = .ok ∧ (loaded [0xA5, 0x3C] 3).pos + 13 ≤ 8 * (loaded [0xA5, 0x3C] 3).len ∧
      ∃ t, exec (.rdb 13) (loaded [0xA5, 0x3C] 3) = .next t := ⟨rfl, by decide, _, rfl⟩

theorem witness_ConsecutiveReadsAssociate :
    (loaded [0xA5, 0x3C]).err = .ok ∧ 9 + 7 ≤ 64 ∧ (loaded [0xA5, 0x3C]).pos + (9 + 7) ≤ 8 * (loaded [0xA5, 0x3C]).len := by
  decide

/-- The three cases of `RDF`: latched, at the end of the stream, one bit before it. -/
theorem witness_RdfResult :
    (latched .truncated [0x80]).err ≠ .ok ∧ 8 * (loaded [0x80] 8).len ≤ (loaded [0x80] 8).pos ∧
      ¬ 8 * (loaded [0x80] 7).len ≤ (loaded [0x80] 7).pos := by decide

theorem witness_SerrResult : ErrCode.malformed ≠ .ok ∧ (latched .truncated []).err ≠ .ok ∧ (loaded []).err = .ok := by
  decide

/-- Both sides of the equivalence. -/
theorem witness_IllFormedTermIsRefused :
    wellFormed (.rdb 65) = false ∧ (∃ r, exec (.rdb 65) State.reset = .refused (.illegalOperand r)) ∧
      wellFormed (.rdb 64) = true := ⟨rfl, ⟨_, rfl⟩, rfl⟩

theorem witness_LatchedReadsGiveZero : (latched .wrongUnitType [0xFF]).err ≠ .ok := by decide

/-- `lz` = 0, and `lz` = 32 with a codeword of 65 bits (V22, V31). -/
theorem witness_RdueDecodesACodeword :
    (let s := loaded [0x80]
     s.err = .ok ∧ 0 ≤ 32 ∧ (∀ i < 0, streamBit s.buf (s.pos + i) = false) ∧ streamBit s.buf (s.pos + 0) = true ∧
       s.pos + 2 * 0 + 1 ≤ 8 * s.len) ∧
    (let s := loaded [0x00, 0x00, 0x00, 0x00, 0x80, 0x00, 0x00, 0x00, 0x00]
     s.err = .ok ∧ 32 ≤ 32 ∧ (∀ i < 32, streamBit s.buf (s.pos + i) = false) ∧ streamBit s.buf (s.pos + 32) = true ∧
       s.pos + 2 * 32 + 1 ≤ 8 * s.len) := by decide +kernel

/-- V27: 32 zero bits and the end. -/
theorem witness_RdueRunsOutOfBits :
    let s := loaded [0x00, 0x00, 0x00, 0x00]
    s.err = .ok ∧ 8 * s.len - s.pos ≤ 32 ∧ ∀ p, s.pos ≤ p → p < 8 * s.len → streamBit s.buf p = false :=
  ⟨rfl, by decide, fun _ _ _ => by simp [loaded, loadBuffer, setBuffer, recreateCursor, setVal, setErr, setPos, bufferFrom,
    unlistedByte, streamBit, memRead]⟩

/-- V28. -/
theorem witness_RdueSeesTooManyZeros :
    let s := loaded [0x00, 0x00, 0x00, 0x00, 0x00]
    s.err = .ok ∧ s.pos + 33 ≤ 8 * s.len ∧ ∀ i < 33, streamBit s.buf (s.pos + i) = false := by decide +kernel

/-- V32: the suffix one bit short. -/
theorem witness_RdueSuffixTruncated :
    let s := loaded [0x00, 0x00, 0x00, 0x00, 0xFF, 0xFF, 0xFF, 0xFF]
    s.err = .ok ∧ (∀ i < 32, streamBit s.buf (s.pos + i) = false) ∧ streamBit s.buf (s.pos + 32) = true ∧
      s.pos + 32 < 8 * s.len ∧ 8 * s.len < s.pos + 2 * 32 + 1 := by decide +kernel

/-- V22a, V27a and V24; and a command with the latch set that is neither INIT nor DSPS. -/
theorem witness_FailingReadsConsumeNothing :
    (∃ t, exec (.rdb 9) (loaded [0xA5, 0x3C] 8) = .next t ∧ (loaded [0xA5, 0x3C] 8).err = .ok ∧ t.err ≠ .ok) ∧
    (∃ t, exec .rdf (loaded []) = .next t ∧ (loaded []).err = .ok ∧ t.err ≠ .ok) ∧
    (∃ t, exec .rdue (loaded [0x01]) = .next t ∧ (loaded [0x01]).err = .ok ∧ t.err ≠ .ok) ∧
    (Instr.rdf ≠ .init ∧ Instr.rdf ≠ .dsps ∧ (latched .malformed [0xA5] 3).err ≠ .ok ∧
      ∃ t, exec .rdf (latched .malformed [0xA5] 3) = .next t) :=
  ⟨⟨_, rfl, by decide, by decide⟩, ⟨_, rfl, by decide, by decide⟩, ⟨_, rfl, by decide, by decide⟩,
    by decide, by decide, by decide, _, rfl⟩

/-- The codeword `00101` of 4 (V20), and that of the largest value (V30). -/
theorem witness_RdueRoundTrip :
    (let s := loaded [0x28]
     4 ≤ 2 ^ 33 - 2 ∧ s.err = .ok ∧ s.pos + (2 * Nat.log2 (4 + 1) + 1) ≤ 8 * s.len ∧
       streamBits s.buf s.pos (2 * Nat.log2 (4 + 1) + 1) = 4 + 1) ∧
    (let s := loaded [0x00, 0x00, 0x00, 0x00, 0xFF, 0xFF, 0xFF, 0xFF, 0x80]
     8589934590 ≤ 2 ^ 33 - 2 ∧ s.err = .ok ∧ s.pos + (2 * Nat.log2 (8589934590 + 1) + 1) ≤ 8 * s.len ∧
       streamBits s.buf s.pos (2 * Nat.log2 (8589934590 + 1) + 1) = 8589934590 + 1) := by decide +kernel

theorem witness_RdueLength :
    ∃ t, exec .rdue (loaded [0x01, 0x00]) = .next t ∧ (loaded [0x01, 0x00]).err = .ok ∧ t.err = .ok :=
  ⟨_, rfl, by decide, by decide⟩

theorem witness_CursorCommandsFrame : Instr.serr .malformed ≠ .dsps ∧
    ∃ t, exec (.serr .malformed) (loaded [0xA5]) = .next t := ⟨by decide, _, rfl⟩

/-- A command that is neither INIT nor DSPS, at the last bit, and DSPS, from the end of the stream. -/
theorem witness_CursorNeverGoesBack : Instr.rdf ≠ .init ∧ Instr.rdf ≠ .dsps ∧
    (∃ t, exec .rdf (loaded [0x80] 7) = .next t) ∧ (loaded [0x80] 7).pos ≤ 8 * (loaded [0x80] 7).len ∧
    (∃ t, exec .dsps (loaded [0x80] 8) = .next t) ∧ (loaded [0x80] 8).pos ≤ 8 * (loaded [0x80] 8).len :=
  ⟨by decide, by decide, ⟨_, rfl⟩, by decide, ⟨_, rfl⟩, by decide⟩

/-- A set latch that a step keeps, and one that INIT clears. -/
theorem witness_LatchClearedOnlyByRecreation :
    (∃ t, step (setErr .malformed (about (.command 0x1001))) = .next t ∧
      (setErr .malformed (about (.command 0x1001))).err ≠ .ok ∧ t.err = .malformed) ∧
    (∃ t, step (setErr .malformed (about (.command 0x6000))) = .next t ∧ t.err = .ok) :=
  ⟨⟨_, rfl, by decide, by decide⟩, ⟨_, rfl, by decide⟩⟩

theorem witness_BufferWrittenOnlyByLoad :
    (∃ t, step (about (.command 0x2000)) = .next t ∧ t.len = 2) ∧ (∃ t, step (about (.load [0x01])) = .next t ∧ t.len = 1) :=
  ⟨⟨_, rfl, by decide⟩, ⟨_, rfl, by decide⟩⟩

theorem witness_RecordWrittenOnlyByDsps :
    (∃ t, step (about (.command 0x2000)) = .next t ∧ t.seq = .idle) ∧
      (∃ t, step (about (.command 0x8000)) = .next t ∧ t.seq = .done) :=
  ⟨⟨_, rfl, by decide⟩, ⟨_, rfl, rfl⟩⟩

theorem witness_ParametersNeverChange : ∃ t, step (about .reset) = .next t := ⟨_, rfl⟩

/-- A memory that differs from the buffer at an address `>= LEN`. -/
theorem witness_CommandsReadInsideTheBuffer :
    (∀ a < (loaded [0xA5]).len, memRead [(0, 0xA5), (1, 0xFF)] a = memRead (loaded [0xA5]).buf a) ∧
      memRead [(0, 0xA5), (1, 0xFF)] 1 ≠ memRead (loaded [0xA5]).buf 1 ∧
      (∃ t, exec (.rdb 9) (loaded [0xA5]) = .next t) ∧ ∃ t, exec .dsps (loaded [0xA5]) = .next t :=
  ⟨by decide, by decide, ⟨_, rfl⟩, ⟨_, rfl⟩⟩

/-- The invariant at a state with an action to come, so that a step has something to do. -/
theorem witness_InvariantKept :
    Inv { State.reset with inputs := [.command 0x8000] } ∧
      ∃ t, step { State.reset with inputs := [.command 0x8000] } = .next t := by
  refine ⟨⟨Nat.le_refl _, ⟨rfl, ?_⟩, .inl rfl, ⟨?_, Nat.le_refl _, ?_, fun _ => ⟨rfl, rfl, rfl, rfl⟩, fun _ => rfl,
    fun _ => rfl⟩, ⟨?_, ?_, ?_, ?_, ?_, ?_⟩⟩, ⟨_, rfl⟩⟩
  · intro c hc; cases hc
  · intro e he; cases he
  · intro h; exact absurd h.1 (by decide)
  all_goals decide

/-- Two states that differ only in what a DSPS forgets. -/
theorem witness_DspsForgetsTheOldState :
    let s := loaded minimalSps
    let u := setResult .malformed (setVal 7 (latched .truncated minimalSps 3))
    s ≠ u ∧ s.buf = u.buf ∧ s.len = u.len ∧ s.params = u.params ∧ s.inputs = u.inputs ∧ s.freeTick = u.freeTick := by
  decide +kernel

/-- V77's header, alone. -/
theorem witness_WrongUnitTypeStopsAtOnce :
    let s := loaded [0x40, 0x01]
    2 ≤ s.len ∧ classify s.params (memRead s.buf 0) ≠ s.params.spsTag := by decide +kernel

/-- V78 and V79. -/
theorem witness_TruncatedHeader :
    (let s := loaded [0x42]; s.len < 2 ∧ classify s.params 0 ≠ s.params.spsTag) ∧
      (let s := loaded []; s.len < 2 ∧ classify s.params 0 ≠ s.params.spsTag) := by decide +kernel

/-- Program P5, without the byte after the ProfileTierLevel. -/
theorem witness_SubLayerExit :
    let s := loaded [0x42, 0x01, 0x05, 0x01, 0x60, 0x00, 0x00, 0x00, 0x90, 0x00, 0x00, 0x00, 0x00, 0x00, 0x78]
    15 ≤ s.len ∧ classify s.params (memRead s.buf 0) = s.params.spsTag ∧ streamBits s.buf 20 3 ≠ 0 := by decide +kernel

/-- Program P4. -/
theorem witness_HeaderOnlyBuffer :
    let s := loaded [0x42, 0x01]
    s.len = 2 ∧ classify s.params (memRead s.buf 0) = s.params.spsTag := by decide +kernel

/-- The fields of P3, with its conformance window. -/
theorem witness_HeaderOnlyBuffer_minimal :
    let s := loaded minimalSps
    let fs : Fields :=
      [(.u 16, 16897), (.u 4, 0), (.u 3, 0), (.f, 1), (.u 2, 0), (.f, 0), (.u 5, 1), (.u 32, 1610612736),
       (.u 48, 158329674399744), (.u 8, 120), (.ue, 0), (.ue, 1), (.ue, 1920), (.ue, 1088), (.f, 1),
       (.ue, 0), (.ue, 0), (.ue, 0), (.ue, 4), (.ue, 0), (.ue, 0), (.ue, 4), (.f, 1), (.ue, 4), (.ue, 2),
       (.ue, 5), (.ue, 0), (.ue, 3), (.ue, 0), (.ue, 3), (.ue, 0), (.ue, 0), (.f, 0), (.f, 0), (.f, 1),
       (.f, 0), (.ue, 0), (.f, 0), (.f, 1), (.f, 1), (.f, 0)]
    classify s.params (memRead s.buf 0) = s.params.spsTag ∧ fieldsWidth fs ≤ 8 * s.len ∧ fieldsWidth fs = 219 ∧
      fieldsAt s.buf 0 fs = true := by decide +kernel

/-- The same without a window, the SPS identifier at the bound of R112 and no picture. -/
theorem witness_HeaderOnlyBuffer_no_window :
    let s := loaded
      [0x42, 0x01, 0x01, 0x01, 0x60, 0x00, 0x00, 0x00, 0x90, 0x00, 0x00, 0x00, 0x00, 0x00, 0x78, 0x00,
       0x00, 0x00, 0x00, 0xFF, 0xFF, 0xFF, 0xFF, 0xAD, 0x96, 0x56, 0x69, 0x24, 0xCA, 0xDF]
    let fs : Fields :=
      [(.u 16, 16897), (.u 4, 0), (.u 3, 0), (.f, 1), (.u 2, 0), (.f, 0), (.u 5, 1), (.u 32, 1610612736),
       (.u 48, 158329674399744), (.u 8, 120), (.ue, 8589934590), (.ue, 1), (.ue, 0), (.ue, 0), (.f, 0),
       (.ue, 0), (.ue, 0), (.ue, 4), (.f, 1), (.ue, 4), (.ue, 2), (.ue, 5), (.ue, 0), (.ue, 3), (.ue, 0),
       (.ue, 3), (.ue, 0), (.ue, 0), (.f, 0), (.f, 0), (.f, 1), (.f, 0), (.ue, 0), (.f, 0), (.f, 1),
       (.f, 1), (.f, 0)]
    classify s.params (memRead s.buf 0) = s.params.spsTag ∧ fieldsWidth fs ≤ 8 * s.len ∧
      fieldsAt s.buf 0 fs = true := by decide +kernel

/-- The three cases: V71, V77 and V76. -/
theorem witness_ResultAgainstLatch :
    (let t := dspsOf [0x42, 0x01]; exec .dsps (loaded [0x42, 0x01]) = .next t ∧ t.result = .truncated ∧ t.err = .truncated) ∧
    (let t := dspsOf [0x40, 0x01]; t.result = .wrongUnitType ∧ t.recValid = false ∧ t.err = .ok) ∧
    (let t := dspsOf [0x42, 0x01, 0x05, 0x01, 0x60, 0x00]
     t.result = .ok ∧ t.recValid = true ∧ t.err = .truncated ∧ t.sps.maxSubLayersMinus1 ≠ 0) :=
  ⟨⟨rfl, by decide +kernel, by decide +kernel⟩, by decide +kernel, by decide +kernel⟩

/-- Whether a walk is at its end. -/
def stopped : Walk → Bool
  | .go _ => false
  | .stop _ => true

theorem stopped_spec {w : Walk} : (stopped w = true → ∃ u, w = .stop u) ∧ (stopped w = false → ∃ u, w = .go u) := by
  cases w <;> simp [stopped]

/-- Each place where a walk stops: the unit type (V77), the sub-layer exit (V76), the checkpoint (P7), and the final
return (P3). -/
theorem witness_ResultAgainstLatch_stops :
    let q1 := fun bytes => seqQ1 (startDsps (loaded bytes))
    let q3 := fun bytes => seqQ3 (seqQ2 (walkState (q1 bytes)))
    let q11 := fun bytes => seqQ11 (seqQ4toQ10 (walkState (q3 bytes)))
    stopped (q1 [0x40, 0x01]) = true ∧
    (stopped (q1 [0x42, 0x01, 0x05]) = false ∧ stopped (q3 [0x42, 0x01, 0x05]) = true) ∧
    (let p7 := minimalSps.take 26 ++ [0xC9, 0x84, 0xBC]
     stopped (q1 p7) = false ∧ stopped (q3 p7) = false ∧ stopped (q11 p7) = true) ∧
    (stopped (q1 minimalSps) = false ∧ stopped (q3 minimalSps) = false ∧ stopped (q11 minimalSps) = false) := by
  decide +kernel

/-- P7: the checkpoint reports the latch, and the entry with 17 pictures is the last of `RPS`. -/
theorem test_checkpoint :
    let t := dspsOf (minimalSps.take 26 ++ [0xC9, 0x84, 0xBC])
    t.result = .tooManyReferencePictures ∧ t.err = .tooManyReferencePictures ∧ t.pos = 227 ∧ t.recValid = true ∧
      t.rps.length = 1 ∧ t.sps.temporalMvpEnabledFlag = false := by decide +kernel

theorem witness_NoRecordMeansWrongUnitType :
    (exec .dsps (loaded [0x40, 0x01]) = .next (dspsOf [0x40, 0x01]) ∧ (dspsOf [0x40, 0x01]).recValid = false) ∧
      (dspsOf [0x42, 0x01]).recValid = true := ⟨⟨rfl, by decide +kernel⟩, by decide +kernel⟩

/-- A run that reaches step Q7, one that stops at the sub-layer exit, and one that stops at the unit type. -/
theorem witness_SloiHasOneEntry :
    exec .dsps (loaded [0x42, 0x01]) = .next (dspsOf [0x42, 0x01]) ∧ (dspsOf [0x42, 0x01]).sloi.length = 1 ∧
      (dspsOf [0x42, 0x01, 0x05]).sloi.length = 0 ∧ (dspsOf [0x40, 0x01]).sloi.length = 0 :=
  ⟨rfl, by decide +kernel, by decide +kernel, by decide +kernel⟩

/-- A stream whose VUI ends at the HRD exit: P3's bits up to 217, the VUI flag, four flags of 0, three more, and
another, timing information with 64 zero bits, the POC flag 0, and the HRD flag 1. -/
def hrdSps : List Byte :=
  minimalSps.take 27 ++ [0xE0, 0x10, 0x00, 0x00, 0x00, 0x00, 0x00, 0x00, 0x00, 0x04]

theorem witness_HrdExit :
    exec .dsps (loaded hrdSps) = .next (dspsOf hrdSps) ∧ (dspsOf hrdSps).vui.hrdParametersPresentFlag = true ∧
      (dspsOf hrdSps).err = .ok := ⟨rfl, by decide +kernel, by decide +kernel⟩

/-- The routine with the HRD exit (timing, the POC flag 0, the HRD flag 1), and without it (no timing at all). -/
theorem witness_HrdExit_routine :
    hrdExit (vuiGroups (loaded [0x00, 0x80, 0x00, 0x00, 0x00, 0x00, 0x00, 0x00, 0x00, 0x20])) = true ∧
      hrdExit (vuiGroups (loaded [0x00, 0x00])) = false := by decide +kernel

/-- Every presence flag 0: no VUI at all (P3), and a VUI of zero flags. -/
theorem witness_AbsentGroupsAreZero :
    exec .dsps (loaded minimalSps) = .next (dspsOf minimalSps) ∧
      (dspsOf minimalSps).sps.vuiParametersPresentFlag = false ∧
      (let v := (dspsOf (minimalSps.take 27 ++ [0xE0, 0x00])).vui
       (dspsOf (minimalSps.take 27 ++ [0xE0, 0x00])).sps.vuiParametersPresentFlag = true ∧
       v.aspectRatioInfoPresentFlag = false ∧ v.overscanInfoPresentFlag = false ∧ v.videoSignalTypePresentFlag = false ∧
       v.colourDescriptionPresentFlag = false ∧ v.chromaLocInfoPresentFlag = false ∧ v.defaultDisplayWindowFlag = false ∧
       v.timingInfoPresentFlag = false ∧ v.pocProportionalToTimingFlag = false ∧ v.bitstreamRestrictionFlag = false) :=
  ⟨rfl, by decide +kernel, by decide +kernel⟩

/-- V46 (a count of 17) and V45's counts (16 and 16). -/
theorem witness_ExplicitEntry :
    (let e := (shortTermRps 0 1 (loaded [0x08, 0x84, 0xB0])).2; e.interFlag = false ∧ 16 < e.numPositivePics.toNat) ∧
    (let e := (shortTermRps 0 1 (loaded [0x08, 0x84, 0x7F])).2
     e.interFlag = false ∧ e.numNegativePics.toNat = 16 ∧ e.numPositivePics.toNat = 16) := by decide +kernel

/-- V40 (two negative pictures and a positive one), V47 (a later entry, no negative picture), and 16 and 16 (V45). -/
theorem witness_ExplicitEntry_pairs :
    StreamHolds (loaded [0x6B, 0x42, 0x40])
      (List.flatten [[], [(.ue, 2), (.ue, 1)], pairFields [(0, true), (1, false)], pairFields [(3, true)]]) ∧
    StreamHolds (loaded [0x50, 0xA8])
      (List.flatten [[(.f, 0)], [(.ue, 0), (.ue, 1)], pairFields [], pairFields [(9, true)]]) ∧
    StreamHolds (loaded [0x08, 0x84, 0x7F, 0xFF, 0xFF, 0xFF, 0xFF, 0xFF, 0xFF, 0xFF, 0xC0])
      (List.flatten [[], [(.ue, 16), (.ue, 16)], pairFields (List.replicate 16 (0, true)),
        pairFields (List.replicate 16 (0, true))]) := by
  unfold StreamHolds; decide +kernel

/-- V46: 16 and 17; and the same for a later entry, after the prediction flag 0. -/
theorem witness_TooManyPicturesLatched :
    (let s := loaded [0x08, 0x84, 0xB0]
     (readUe (readUe s)).err = .ok ∧ 16 < (readUe (readUe s)).val.toNat) ∧
    (let r := readFlag (loaded [0x04, 0x42, 0x58])
     (1 : Word) ≠ 0 ∧ r.val = 0 ∧ (readUe (readUe r)).err = .ok ∧ 16 < (readUe (readUe r)).val.toNat) := by decide +kernel

/-- V43. -/
theorem witness_ForwardReferenceIsMalformed :
    let s := loaded [0xA9, 0xA0]
    (1 : Word) ≠ 0 ∧ (readFlag s).val = 1 ∧ (readUe (readFlag s)).err = .ok ∧
      (1 : Word).toNat < (readUe (readFlag s)).val.toNat + 1 := by decide +kernel

/-- V41. -/
theorem witness_PredictedEntry :
    let s := { loaded [0xB4] with rps := [sampleEntry] }
    (1 : Word) ≠ 2 ∧ 0 < (1 : Word).toNat ∧ (1 : Word).toNat ≤ s.rps.length ∧ (shortTermRps 1 2 s).2.interFlag = true := by
  decide +kernel

/-- V41, the reference one before, and V44, in the slice-header context, the reference two before. -/
theorem witness_PredictedEntry_count :
    ((1 : Word) ≠ 0 ∧ 0 + 1 ≤ (1 : Word).toNat ∧ (1 : Word) ≠ 2 ∧
      [sampleEntry][(1 : Word).toNat - (0 + 1)]? = some sampleEntry ∧
      [none, some true, some false].length = sampleEntry.numDeltaPocs.toNat ∧
      StreamHolds { loaded [0xB4] with rps := [sampleEntry] }
        (List.flatten [[(.f, 1)], [], [(.f, 0), (.ue, 0)], priorFields [none, some true, some false]])) ∧
    ((2 : Word) ≠ 0 ∧ 1 + 1 ≤ (2 : Word).toNat ∧
      [sampleEntry, {}][(2 : Word).toNat - (1 + 1)]? = some sampleEntry ∧
      ([none, none, none] : List (Option Bool)).length = sampleEntry.numDeltaPocs.toNat ∧
      StreamHolds { loaded [0xA7, 0x80] with rps := [sampleEntry, {}] }
        (List.flatten [[(.f, 1)], [(.ue, 1)], [(.f, 0), (.ue, 0)], priorFields [none, none, none]])) := by
  unfold StreamHolds; decide +kernel

/-- The least width the guard stops at: `n` = 65. -/
theorem witness_LongTermWidthGuard :
    64 < ({ loaded [0xFF] with sps := { log2MaxPocLsbMinus4 := 61 } } : State).sps.log2MaxPocLsbMinus4.toNat + 4 := by
  decide

/-- The greatest width that is read: `n` = 64. -/
theorem witness_LongTermWidthGuard_read :
    let s := { loaded [0xFF, 0xFF, 0xFF, 0xFF, 0xFF, 0xFF, 0xFF, 0xFF, 0x80] with sps := { log2MaxPocLsbMinus4 := 60 } }
    64 = s.sps.log2MaxPocLsbMinus4.toNat + 4 ∧ StreamHolds s [(.u 64, 0xFFFFFFFFFFFFFFFF), (.f, 1)] := by
  unfold StreamHolds; decide +kernel

/-- V50. -/
theorem witness_ScalingSkipShortest :
    let s := loaded [0x55, 0x55, 0x55, 0x55, 0x55]
    s.err = .ok ∧ s.pos + 40 ≤ 8 * s.len ∧
      ∀ i < 20, streamBit s.buf (s.pos + 2 * i) = false ∧ streamBit s.buf (s.pos + 2 * i + 1) = true := by decide +kernel

/-- The fields of a matrix that is one delta of 0. -/
theorem shortMatrix (sizeId : Nat) : MatrixFields sizeId [(.f, 0), (.ue, 0)] := .inl ⟨0, rfl⟩

/-- A matrix of size class 2 with the DC value 8 (V54). -/
def dcMatrix : Fields := (.f, 1) :: (.ue, 8) :: List.replicate 64 (.ue, 0)

theorem dcMatrix_fields : MatrixFields 2 dcMatrix := .inr ⟨8 :: List.replicate 64 0, rfl, rfl⟩

/-- One matrix with the DC value, one of size class 0 with its 16 coefficients (V53), one with its delta. -/
theorem witness_ScalingSkipShortest_matrix :
    StreamHolds (loaded [0x89, 0xFF, 0xFF, 0xFF, 0xFF, 0xFF, 0xFF, 0xFF, 0xFF]) dcMatrix ∧
    (MatrixFields 0 ((.f, 1) :: List.replicate 16 (.ue, 1)) ∧
      StreamHolds (loaded [0xA4, 0x92, 0x49, 0x24, 0x92, 0x49, 0x00]) ((.f, 1) :: List.replicate 16 (.ue, 1))) ∧
    StreamHolds (loaded [0x55]) [(.f, 0), (.ue, 0)] := by
  refine ⟨?_, ⟨.inr ⟨List.replicate 16 1, rfl, rfl⟩, ?_⟩, ?_⟩ <;> unfold StreamHolds <;> decide +kernel

/-- V54's twenty matrices. -/
def dcMatrices : List Fields :=
  List.replicate 12 [(.f, 0), (.ue, 0)] ++ dcMatrix :: List.replicate 7 [(.f, 0), (.ue, 0)]

theorem witness_ScalingSkipShortest_routine :
    List.Forall₂ MatrixFields (List.replicate 6 0 ++ List.replicate 6 1 ++ List.replicate 6 2 ++ List.replicate 2 3)
      dcMatrices ∧
    StreamHolds (loaded [0x55, 0x55, 0x55, 0x89, 0xFF, 0xFF, 0xFF, 0xFF, 0xFF, 0xFF, 0xFF, 0xFF, 0x55, 0x54])
      dcMatrices.flatten := by
  constructor
  · simp [dcMatrices, List.replicate, shortMatrix, dcMatrix_fields]
  · unfold StreamHolds; decide +kernel

/-- IDC 17, the first one the default lookup rejects. -/
theorem witness_RejectedAspectRatio :
    let s := loaded [0x88, 0x80]
    s.err = .ok ∧ s.vui = {} ∧ s.pos + 9 ≤ 8 * s.len ∧ streamBit s.buf s.pos = true ∧
      BitVec.ofNat 8 (streamBits s.buf (s.pos + 1) 8) ≠ s.params.extendedSar ∧
      lookupSar s.params (BitVec.ofNat 8 (streamBits s.buf (s.pos + 1) 8)) = none := by decide +kernel

/-! ### Witnesses of `StreamFieldsInOrder`, step by step; the bits are those of the fields, one after the other -/

/-- Chroma format 1 and 3; without and with a window, a width at the bound of R112; three values. -/
theorem witness_StreamFieldsInOrder_q4_to_q6 :
    StreamHolds (loaded [0xAF]) [(.ue, 0), (.ue, 1)] ∧
    StreamHolds (loaded [0x08, 0x13]) [(.ue, 15), (.ue, 3), (.f, 1)] ∧
    StreamHolds (loaded [0x00, 0x3C, 0x08, 0x01, 0x10, 0x5F]) [(.ue, 1920), (.ue, 1088), (.f, 0)] ∧
    StreamHolds (loaded [0x00, 0x00, 0x00, 0x00, 0xFF, 0xFF, 0xFF, 0xFF, 0xF4, 0xCB]) [(.ue, 8589934590), (.ue, 0),
      (.f, 1), (.ue, 0), (.ue, 1), (.ue, 2), (.ue, 4)] ∧
    StreamHolds (loaded [0xB2, 0xFF]) [(.ue, 0), (.ue, 2), (.ue, 4)] := by
  unfold StreamHolds; decide +kernel

/-- Step Q7 from the first sub-layer, and from the last; step Q12 with entries of 64 bits, of 4 bits, and without. -/
theorem witness_StreamFieldsInOrder_q7_and_q12 :
    (let s := { loaded [0x95, 0x9A, 0x88] with sps := { maxSubLayersMinus1 := 1 } }
     [(4, 2, 5), (0, 1, 3)].length = s.sps.maxSubLayersMinus1.toNat + 1 ∧
       StreamHolds s [(.f, 1), (.ue, 4), (.ue, 2), (.ue, 5), (.ue, 0), (.ue, 1), (.ue, 3)]) ∧
    StreamHolds { loaded [0x15, 0x98] with sps := { maxSubLayersMinus1 := 6 } } [(.f, 0), (.ue, 4), (.ue, 2), (.ue, 5)] ∧
    (let s := { loaded
        [0xBF, 0xFF, 0xFF, 0xFF, 0xFF, 0xFF, 0xFF, 0xFF, 0xF0, 0x00, 0x00, 0x00, 0x00, 0x00, 0x00, 0x00, 0x0C] with
        sps := { log2MaxPocLsbMinus4 := 60 } }
     64 = s.sps.log2MaxPocLsbMinus4.toNat + 4 ∧
       StreamHolds s [(.f, 1), (.ue, 2), (.u 64, 0xFFFFFFFFFFFFFFFF), (.f, 0), (.u 64, 1), (.f, 1)]) ∧
    StreamHolds (loaded [0xA9, 0x80]) [(.f, 1), (.ue, 1), (.u 4, 9), (.f, 1)] ∧ StreamHolds (loaded [0x00]) [(.f, 0)] := by
  unfold StreamHolds; decide +kernel

/-- Six values; the scaling flags in each combination; without and with PCM; no reference picture set, and two. -/
theorem witness_StreamFieldsInOrder_q8_to_q11 :
    StreamHolds (loaded [0x92, 0x44, 0xFF]) [(.ue, 0), (.ue, 3), (.ue, 0), (.ue, 3), (.ue, 1), (.ue, 2)] ∧
    StreamHolds (loaded [0x7F]) [(.f, 0)] ∧
    StreamHolds (loaded [0xBF]) [(.f, 1), (.f, 0)] ∧
    StreamHolds (loaded [0xFF]) [(.f, 1), (.f, 1)] ∧
    StreamHolds (loaded [0x9F]) [(.f, 1), (.f, 0), (.f, 0)] ∧
    StreamHolds (loaded [0x6F, 0xF7]) [(.f, 0), (.f, 1), (.f, 1), (.u 4, 7), (.u 4, 15), (.ue, 0), (.ue, 2), (.f, 1)] ∧
    StreamHolds (loaded [0xFF]) [(.ue, 0)] ∧
    StreamHolds (loaded [0x7F]) [(.ue, 2)] := by
  unfold StreamHolds; decide +kernel

/-- An entry of step Q11's loop: V40, the latch clear after it, and V46, the latch set. -/
theorem witness_StreamFieldsInOrder_q11_entry :
    (∃ u, shortTermRps 0 2 (loaded [0x6B, 0x42, 0x40]) = (u, sampleEntry) ∧ u.err = .ok) ∧
    ∃ u e, shortTermRps 0 1 (loaded [0x08, 0x84, 0xB0]) = (u, e) ∧ u.err ≠ .ok :=
  ⟨⟨(shortTermRps 0 2 (loaded [0x6B, 0x42, 0x40])).1, by decide +kernel⟩, _, _, rfl, by decide +kernel⟩

/-- Without and with a VUI. -/
theorem witness_StreamFieldsInOrder_q13 :
    StreamHolds (loaded [0x9F]) [(.f, 1), (.f, 0), (.f, 0)] ∧
    StreamHolds (loaded [0x7F]) [(.f, 0), (.f, 1), (.f, 1)] := by
  unfold StreamHolds; decide +kernel

/-- The aspect ratio: absent; extended (IDC 255), the width before the height; looked up, IDC 16. -/
theorem witness_StreamFieldsInOrder_aspect :
    StreamHolds (loaded [0x7F]) [(.f, 0)] ∧
    StreamHolds (loaded [0xFF, 0x80, 0x14, 0x00, 0x10, 0xFF]) [(.f, 1), (.u 8, 255), (.u 16, 40), (.u 16, 33)] ∧
    StreamHolds (loaded [0x88, 0x7F]) [(.f, 1), (.u 8, 16)] := by
  unfold StreamHolds; decide +kernel

/-- Overscan and video signal type: absent; present; with a colour description. -/
theorem witness_StreamFieldsInOrder_signal :
    StreamHolds (loaded [0xFF]) [(.f, 1), (.f, 1)] ∧
    StreamHolds (loaded [0xDB]) [(.f, 1), (.u 3, 5), (.f, 1), (.f, 0)] ∧
    StreamHolds (loaded [0xD4, 0x24, 0x43, 0xFF]) [(.f, 1), (.u 3, 5), (.f, 0), (.f, 1), (.u 8, 9), (.u 8, 16),
      (.u 8, 255)] := by
  unfold StreamHolds; decide +kernel

/-- Chroma location, the three flags, the display window. -/
theorem witness_StreamFieldsInOrder_location :
    StreamHolds (loaded [0xCD]) [(.f, 1), (.ue, 0), (.ue, 5)] ∧
    StreamHolds (loaded [0xBF]) [(.f, 1), (.f, 0), (.f, 1)] ∧
    StreamHolds (loaded [0xD3, 0x00, 0x00, 0x00, 0x00, 0xFF, 0xFF, 0xFF, 0xFF, 0xFF]) [(.f, 1), (.ue, 0), (.ue, 1),
      (.ue, 2), (.ue, 8589934590)] := by
  unfold StreamHolds; decide +kernel

/-- Timing: the POC flag 0 with the HRD flag 1, and the POC flag 1. -/
theorem witness_StreamFieldsInOrder_timing :
    StreamHolds (loaded [0x80, 0x00, 0x01, 0xF4, 0x80, 0x00, 0x75, 0x30, 0x3F]) [(.f, 1), (.u 32, 1001), (.u 32,
      60000), (.f, 0), (.f, 1)] ∧
    StreamHolds (loaded [0xFF, 0xFF, 0xFF, 0xFF, 0x80, 0x00, 0x00, 0x00, 0x6F]) [(.f, 1), (.u 32, 4294967295),
      (.u 32, 0), (.f, 1), (.ue, 0), (.f, 0)] := by
  unfold StreamHolds; decide +kernel

/-- The bitstream restrictions. -/
theorem witness_StreamFieldsInOrder_restrictions :
    StreamHolds (loaded [0xDB, 0x41, 0x00, 0x00, 0x00, 0x00, 0x0F, 0xFF, 0xFF, 0xFF, 0xFF]) [(.f, 1), (.f, 1), (.f,
      0), (.f, 1), (.ue, 0), (.ue, 2), (.ue, 1), (.ue, 15), (.ue, 8589934590)] := by
  unfold StreamHolds; decide +kernel

/-- IDC 255 is the extended one, and IDC 16 is not and has a row. -/
theorem witness_StreamFieldsInOrder_idc :
    BitVec.ofNat 8 255 = (loaded []).params.extendedSar ∧ BitVec.ofNat 8 16 ≠ (loaded []).params.extendedSar ∧
      lookupSar (loaded []).params (BitVec.ofNat 8 16) = some (2, 1) := by decide +kernel

/-- Operands at the bound of R112 (V66). -/
theorem witness_GeomIsExactWhenSmall :
    GeomOperandsSmall { State.reset with
      sps := { chromaFormatIdc := 1, window := { left := 8589934590, right := 8589934590 } } } := by
  constructor <;> decide

/-- The default classification meets the last clause's hypothesis. -/
theorem witness_CommandsAfterReset : classify defaultParams 0 ≠ defaultParams.spsTag := by decide +kernel

end Sys2Proof.Machine
end

namespace Sys2Proof.Machine

/-! ### What one command, and one step, can do -/

/-- Only the word `0x8000` decodes to `DSPS` (R61, R63). -/
theorem word_of_decode_dsps {w : CmdWord} (h : decode w = .ok .dsps) : w = 0x8000 := by
  have fields : zField w = 0 ∧ opField w = 8 ∧ argField w = 0 := by
    unfold decode at h
    split at h
    · cases h
    · rename_i hz
      refine ⟨not_not.1 hz, ?_⟩
      split at h <;> simp_all [decodeRdb, decodeSerr, withoutArgument]
      all_goals split at h <;> simp_all
  obtain ⟨hz, ho, ha⟩ := fields
  simp only [zField, opField, argField, BitVec.extractLsb'_toNat, Nat.shiftRight_eq_div_pow] at hz ho ha
  have hw : w.toNat = 0x8000 := by
    have := w.isLt
    norm_num at *
    omega
  exact BitVec.eq_of_toNat_eq hw

/-- `t` is `s` with another cursor, which lies inside the stream if that of `s` does. -/
structure CursorOnly (s t : State) : Prop where
  frame : t = { s with pos := t.pos, err := t.err, val := t.val }
  inside : s.pos ≤ streamEnd s → t.pos ≤ streamEnd s

theorem CursorOnly.refl (s : State) : CursorOnly s s := ⟨rfl, id⟩

theorem cursorOnly_readField (k : FieldKind) (s : State) : CursorOnly s (readField k s) :=
  ⟨readField_eq k s, by simpa [streamEnd] using (moves_readField recordPart_blind k s).inside⟩

theorem cursorOnly_recordError (e : ErrCode) (s : State) : CursorOnly s (recordError e s) :=
  ⟨by rw [recordError, takeError_eq], by simp⟩

theorem cursorOnly_recreateCursor (s : State) : CursorOnly s (recreateCursor s) := ⟨rfl, fun _ => Nat.zero_le _⟩

/-- Everything a command that completes can do: a whole DSPS, or a change of the cursor alone, which only INIT moves
back. -/
theorem exec_cases {i : Instr} {s t : State} (h : exec i s = .next t) :
    (i = .dsps ∧ t = decodeSps s) ∨ (i ≠ .dsps ∧ CursorOnly s t ∧ (i ≠ .init → s.pos ≤ t.pos)) := by
  have read : ∀ k, CursorOnly s (readField k s) ∧ s.pos ≤ (readField k s).pos := fun k =>
    ⟨cursorOnly_readField k s, (moves_readField recordPart_blind k s).pos_le⟩
  cases i with
  | dsps => cases h; exact .inl ⟨rfl, rfl⟩
  | init => cases h; exact .inr ⟨nofun, cursorOnly_recreateCursor s, fun hi => absurd rfl hi⟩
  | rdf => cases h; exact .inr ⟨nofun, (read .f).1, fun _ => (read .f).2⟩
  | rdue => cases h; exact .inr ⟨nofun, (read .ue).1, fun _ => (read .ue).2⟩
  | stat => cases h; exact .inr ⟨nofun, ⟨rfl, id⟩, fun _ => Nat.le_refl _⟩
  | rdb n =>
    simp only [exec, execRdb] at h
    split at h <;> cases h
    exact .inr ⟨nofun, (read (.u n)).1, fun _ => (read (.u n)).2⟩
  | serr c =>
    simp only [exec, execSerr] at h
    split at h <;> cases h
    exact .inr ⟨nofun, cursorOnly_recordError c s, fun _ => (recordError_pos c s).ge⟩

/-- A command word whose step completes was decoded, and its command executed. -/
theorem runCommand_next {w : CmdWord} {s t : State} (h : runCommand w s = .next t) :
    ∃ i, decode w = .ok i ∧ exec i s = .next t := by
  unfold runCommand at h
  split at h
  · exact ⟨_, ‹_›, h⟩
  · cases h

/-- A host read that completes leaves the state alone. -/
theorem runRead_next {r : Readable} {s t : State} (h : runRead r s = .next t) : t = s := by
  unfold runRead at h
  split at h <;> cases h
  rfl

/-- Everything a step that completes can do, `rest` being the host's actions that are still to come. -/
theorem step_cases {s t : State} (h : step s = .next t) :
    ∃ rest, CursorOnly { s with inputs := rest } t ∨
      (s.inputs = .command 0x8000 :: rest ∧ t = decodeSps { s with inputs := rest }) ∨
      (∃ bytes, s.inputs = .load bytes :: rest ∧ t = loadBuffer bytes { s with inputs := rest }) ∨
      (s.inputs = .reset :: rest ∧ t = hostReset { s with inputs := rest }) := by
  unfold step takeAction at h
  split at h
  · cases h
    exact ⟨s.inputs, .inl (.refl s)⟩
  · rename_i a rest hin
    refine ⟨rest, ?_⟩
    cases a with
    | command w =>
      obtain ⟨i, hd, he⟩ := runCommand_next h
      rcases exec_cases he with ⟨rfl, ht⟩ | ⟨-, hc, -⟩
      · exact .inr (.inl ⟨by rw [hin, word_of_decode_dsps hd], ht⟩)
      · exact .inl hc
    | load bytes => cases h; exact .inr (.inr (.inl ⟨bytes, hin, rfl⟩))
    | read r => obtain rfl := runRead_next h; exact .inl (.refl _)
    | reset => cases h; exact .inr (.inr (.inr ⟨hin, rfl⟩))

/-! ### A whole DSPS: what it starts from and what it never touches -/

/-- A DSPS starts from the buffer, its length and the model's own fields; everything else is as after reset
(R28, R125). -/
theorem startDsps_eq (s : State) : startDsps s =
    { State.reset with
      buf := s.buf, len := s.len, params := s.params, inputs := s.inputs, freeTick := s.freeTick, seq := .q1 } := rfl

@[simp] theorem startDsps_buf (s : State) : (startDsps s).buf = s.buf := rfl
@[simp] theorem startDsps_len (s : State) : (startDsps s).len = s.len := rfl
@[simp] theorem startDsps_pos (s : State) : (startDsps s).pos = 0 := rfl
@[simp] theorem startDsps_err (s : State) : (startDsps s).err = .ok := rfl
@[simp] theorem startDsps_recordPart (s : State) : recordPart (startDsps s) = recordPart State.reset := rfl

@[simp] theorem finishDsps_buf (s : State) : (finishDsps s).buf = s.buf := rfl
@[simp] theorem finishDsps_len (s : State) : (finishDsps s).len = s.len := rfl
@[simp] theorem finishDsps_pos (s : State) : (finishDsps s).pos = s.pos := rfl
@[simp] theorem finishDsps_err (s : State) : (finishDsps s).err = s.err := rfl
@[simp] theorem finishDsps_seq (s : State) : (finishDsps s).seq = .done := rfl
@[simp] theorem finishDsps_recordPart (s : State) : recordPart (finishDsps s) = recordPart s := rfl

@[simp] theorem decodeSps_buf (s : State) : (decodeSps s).buf = s.buf := by
  rw [decodeSps, finishDsps_buf, (walkSps_moves _).buf, startDsps_buf]

@[simp] theorem decodeSps_len (s : State) : (decodeSps s).len = s.len := by
  rw [decodeSps, finishDsps_len, (walkSps_moves _).len, startDsps_len]

@[simp] theorem decodeSps_seq (s : State) : (decodeSps s).seq = .done := by rw [decodeSps, finishDsps_seq]

theorem decodeSps_recordPart (s : State) :
    recordPart (decodeSps s) = recordPart (walkState (walkSps (startDsps s))) := by
  rw [decodeSps, finishDsps_recordPart]

/-- A DSPS ends inside the stream, wherever the cursor was before (R16). -/
theorem decodeSps_inside (s : State) : (decodeSps s).pos ≤ streamEnd s := by
  have walk := (walkSps_moves (startDsps s)).inside (by simp)
  rwa [streamEnd, (walkSps_moves _).len, startDsps_len] at walk

/-- A DSPS never latches code 5 (R14). -/
theorem decodeSps_err (s : State) : (decodeSps s).err ≠ .wrongUnitType := by
  rw [decodeSps, finishDsps_err]
  exact (walkSps_moves _).notFive (by simp)

/-! ### The obligations about frames -/

/-- Settles O27: every command but DSPS moves the cursor alone. -/
theorem cursorCommandsFrame : Obligations.CursorCommandsFrame := by
  intro i s t hi h
  rcases exec_cases h with ⟨rfl, -⟩ | ⟨-, hc, -⟩
  · exact absurd rfl hi
  · exact ⟨hc.frame, fun a => by rw [hc.frame]⟩

/-- Settles O28: a DSPS starts again from 0 and stays inside; every other command moves the cursor alone. -/
theorem cursorNeverGoesBack : Obligations.CursorNeverGoesBack := by
  intro i s t h
  rcases exec_cases h with ⟨rfl, rfl⟩ | ⟨-, hc, hle⟩
  · exact ⟨fun _ hd => absurd rfl hd, fun _ => by rw [decodeSps_len]; exact decodeSps_inside s⟩
  · exact ⟨fun hi _ => hle hi, fun hp => by rw [show t.len = s.len by rw [hc.frame]]; exact hc.inside hp⟩

/-- Settles O30, by cases on what a step can do; a DSPS only reads the buffer. -/
theorem bufferWrittenOnlyByLoad : Obligations.BufferWrittenOnlyByLoad := by
  intro s t h
  obtain ⟨rest, hc | ⟨-, rfl⟩ | ⟨bytes, hin, -⟩ | ⟨hin, -⟩⟩ := step_cases h
  · exact .inl (by rw [hc.frame]; exact ⟨rfl, rfl⟩)
  · exact .inl ⟨decodeSps_buf _, decodeSps_len _⟩
  · exact .inr ⟨rest, .inl ⟨bytes, hin⟩⟩
  · exact .inr ⟨rest, .inr hin⟩

/-- Settles O31, by cases on what a step can do; LOAD re-creates the cursor and writes the buffer. -/
theorem recordWrittenOnlyByDsps : Obligations.RecordWrittenOnlyByDsps := by
  intro s t h
  obtain ⟨rest, hc | ⟨hin, -⟩ | ⟨bytes, -, rfl⟩ | ⟨hin, -⟩⟩ := step_cases h
  · exact .inl (by rw [hc.frame]; exact ⟨rfl, rfl, rfl, rfl, rfl, rfl, rfl, rfl, rfl⟩)
  · exact .inr ⟨rest, .inl hin⟩
  · exact .inl ⟨rfl, rfl, rfl, rfl, rfl, rfl, rfl, rfl, rfl⟩
  · exact .inr ⟨rest, .inr hin⟩

/-- Settles O37: two such states start a DSPS in the same state. -/
theorem dspsForgetsTheOldState : Obligations.DspsForgetsTheOldState := by
  intro s u hbuf hlen hparams hinputs htick
  have start : startDsps s = startDsps u := by
    rw [startDsps_eq, startDsps_eq, hbuf, hlen, hparams, hinputs, htick]
  simp only [exec, execDsps, decodeSps, start]

/-! ### Reset -/

/-- Settles O58: each is a field of `State.reset`, or GEOM evaluated there. -/
theorem resetValues : Obligations.ResetValues :=
  ⟨rfl, rfl, rfl, rfl, rfl, rfl, rfl, rfl, rfl, rfl, rfl, rfl, by decide, by decide⟩

end Sys2Proof.Machine

namespace Sys2Proof.Machine

/-! ### Host reads -/

/-- With a read as the host's next action a step is that read (R239). -/
theorem step_read {s : State} {r : Readable} {rest : List HostAction} (h : s.inputs = .read r :: rest) :
    step s = runRead r { s with inputs := rest } := by
  unfold step takeAction
  rw [h]
  rfl

theorem runRead_of_some {r : Readable} {s : State} (h : hostRead s r ≠ none) : runRead r s = .next s := by
  obtain ⟨v, hv⟩ := Option.ne_none_iff_exists'.1 h
  simp only [runRead, hv]

theorem runRead_of_none {r : Readable} {s : State} (h : hostRead s r = none) :
    runRead r s = .fault (.noSuchReadable r) := by
  simp only [runRead, h]

/-- The register numbers of R20 to R25 are 0 to 44 and 100 to 138. -/
theorem registerValue_eq_none_iff (s : State) (n : Nat) :
    registerValue s n = none ↔ ¬ (n ≤ 44 ∨ (100 ≤ n ∧ n ≤ 138)) := by
  unfold registerValue
  split
  case h_85 => simp only [imp_false] at *; simp only [true_iff]; omega
  all_goals simp

/-- A byte below `LEN` is readable, and no other (R40, R44). -/
theorem hostRead_bufByte (s : State) (a : Nat) :
    hostRead s (.bufByte a) = if a < s.len then some (.number (memRead s.buf a).toNat) else none := by
  simp only [hostRead, bufValue]
  split <;> rfl

theorem hostRead_sloi_of_lt {s : State} {k : Nat} (h : k < s.sloi.length) (f : Nat) :
    hostRead s (.sloi k f) = (sloiValue s.sloi[k] f).map .number := by
  simp only [hostRead, List.getElem?_eq_getElem h, Option.bind_some]

theorem hostRead_rps_of_lt {s : State} {k : Nat} (h : k < s.rps.length) (f : RpsField) :
    hostRead s (.rps k f) = (rpsValue s.rps[k] f).map .number := by
  simp only [hostRead, List.getElem?_eq_getElem h, Option.bind_some]

/-- An entry of `SLOI` has three fields (R23). -/
theorem sloiValue_of_gt (e : SloiEntry) {f : Nat} (h : 2 < f) : sloiValue e f = none := by
  unfold sloiValue
  split
  case h_4 => rfl
  all_goals omega

/-- Settles O10. The register lists are `registerValue` evaluated number by number. -/
theorem hostReadChangesNothing : Obligations.HostReadChangesNothing := by
  refine ⟨fun s r rest hin => ?_, fun s => ⟨rfl, rfl, fun n => ?_, hostRead_bufByte s,
    ⟨rfl, rfl, rfl, rfl, rfl, rfl, rfl⟩, ⟨rfl, rfl⟩, ⟨rfl, rfl⟩, fun k f hk => ?_, fun k f hk => ?_,
    fun k hk => ?_, fun k hk => ?_⟩⟩
  · rw [step_read hin]
    exact ⟨runRead_of_some, runRead_of_none⟩
  · simpa only [hostRead, Option.map_eq_none_iff] using registerValue_eq_none_iff s n
  · simp [hostRead, List.getElem?_eq_none hk]
  · simp [hostRead, List.getElem?_eq_none hk]
  · simp only [hostRead_sloi_of_lt hk]
    exact ⟨rfl, rfl, rfl, fun f hf => by rw [sloiValue_of_gt _ hf]; rfl⟩
  · simp only [hostRead_rps_of_lt hk, rpsValue, Option.map_map]
    exact ⟨rfl, rfl, rfl, rfl, rfl, rfl, fun _ => ⟨rfl, rfl, rfl, rfl⟩⟩

end Sys2Proof.Machine

namespace Sys2Proof.Machine

/-! ### Counting the iterations of a loop -/

/-- A measure that each iteration raises by one at most is raised by the number of iterations at most. -/
theorem repeatFor_measure_le {α : Type} (f : α → Nat) {body : Nat → α → α} (h : ∀ i a, f (body i a) ≤ f a + 1)
    (count first : Nat) (a : α) : f (repeatFor body count first a) ≤ f a + count := by
  induction count generalizing first a with
  | zero => exact Nat.le_refl _
  | succ count ih =>
    have step := h first a
    have rest := ih (first + 1) (body first a)
    rw [repeatFor_succ]; omega

/-- A measure that each iteration raises by one is raised by the number of iterations. -/
theorem repeatFor_measure_eq {α : Type} (f : α → Nat) {body : Nat → α → α} (h : ∀ i a, f (body i a) = f a + 1)
    (count first : Nat) (a : α) : f (repeatFor body count first a) = f a + count := by
  induction count generalizing first a with
  | zero => rfl
  | succ count ih => rw [repeatFor_succ, ih, h]; omega

/-! ### Values read -/

/-- The value of an Exp-Golomb read is below `2^33`, whether the read fails or not (R112). -/
theorem readField_ue_val_lt (s : State) : (readField .ue s).val.toNat < 2 ^ 33 := by
  rw [show readField .ue s = readUe s from rfl]
  rcases readUe_cases s with ⟨-, e⟩ | ⟨-, _, -, e⟩ | ⟨-, lz, hlz, -, e⟩ <;> rw [e]
  · exact Nat.two_pow_pos 33
  · exact Nat.two_pow_pos 33
  · have suffix := streamBits_lt s.buf (s.pos + lz + 1) lz
    have bound : 2 ^ lz ≤ 2 ^ 32 := Nat.pow_le_pow_right (by decide) hlz
    rw [BitVec.toNat_ofNat, ueValue]
    exact Nat.lt_of_le_of_lt (Nat.mod_le _ _) (by omega)

/-! ### Parts of the record that a stretch of the walk keeps -/

section
variable {s t : State}

/-- What keeps some of the record keeps any part of that. -/
theorem Moves.mono {β γ : Type} {kept : State → β} {part : State → γ} (h : Moves kept s t)
    (hp : kept t = kept s → part t = part s) : Moves part s t :=
  ⟨h.buf, h.len, h.params, h.inputs, h.freeTick, h.pos_le, h.inside, h.latched, h.notFive, hp h.keeps⟩

theorem Moves.rps_eq (h : Moves recordPart s t) : t.rps = s.rps := congrArg (fun p => p.2.2.1) h.keeps

theorem Moves.sps_eq (h : Moves recordPart s t) : t.sps = s.sps := congrArg (fun p => p.1) h.keeps

end

/-! ### The entries of `RPS` -/

/-- One prior delta-POC counts or not, and changes nothing else of an entry (R165). -/
theorem countDelta_entry (j : Nat) (p : State × RpsEntry) :
    (countDelta j p).2 = { p.2 with numDeltaPocs := p.2.numDeltaPocs + 1 } ∨ (countDelta j p).2 = p.2 := by
  unfold countDelta
  exact ite_eq_or_eq _ _ _

theorem countDelta_besidesCount (j : Nat) (p : State × RpsEntry) :
    { (countDelta j p).2 with numDeltaPocs := 0 } = { p.2 with numDeltaPocs := 0 } := by
  rcases countDelta_entry j p with h | h <;> rw [h]

theorem countDelta_count_le (j : Nat) (p : State × RpsEntry) :
    (countDelta j p).2.numDeltaPocs.toNat ≤ p.2.numDeltaPocs.toNat + 1 := by
  rcases countDelta_entry j p with h | h <;> rw [h]
  · exact (BitVec.toNat_add _ _).trans_le (Nat.mod_le _ _)
  · exact Nat.le_succ _

/-- The prediction changes nothing of an entry but its count (R163, R165). -/
theorem predictedEntry_besidesCount (idx num : Word) (s : State) (e : RpsEntry) :
    { (predictedEntry idx num s e).2 with numDeltaPocs := 0 } = { e with numDeltaPocs := 0 } := by
  unfold predictedEntry
  simp only
  split
  · rfl
  · exact repeatFor_const (fun p : State × RpsEntry => { p.2 with numDeltaPocs := 0 }) countDelta_besidesCount _ _ _

/-- A predicted entry adds no more to the count than the reference entry has (R164, R165). -/
theorem predictedCount_count_le (idx : Word) (s : State) (e : RpsEntry) :
    (predictedCount idx s e).2.numDeltaPocs.toNat ≤
      e.numDeltaPocs.toNat + (numDeltaPocsAt s (idx - s.temps.deltaIdx)).toNat := by
  have h := repeatFor_measure_le (fun p : State × RpsEntry => p.2.numDeltaPocs.toNat) countDelta_count_le
  unfold predictedCount
  refine (h _ _ _).trans (Nat.le_of_eq ?_)
  simp [numDeltaPocsAt]

/-- The count of an entry of `RPS`, or of none, is at most 32. -/
theorem numDeltaPocsAt_le {s : State} (h : ∀ e ∈ s.rps, EntryOk e) (k : Word) : (numDeltaPocsAt s k).toNat ≤ 32 := by
  unfold numDeltaPocsAt
  rw [List.getD_eq_getElem?_getD]
  cases hk : s.rps[k.toNat]? with
  | none => decide
  | some e => exact (h e (List.mem_of_getElem? hk)).2

/-- A predicted entry is as R165 says, if the entries before it are as they should be. -/
theorem predictedEntry_ok (idx num : Word) {s : State} (h : ∀ e ∈ s.rps, EntryOk e) :
    EntryOk (predictedEntry idx num s { interFlag := true }).2 := by
  have same := predictedEntry_besidesCount idx num s { interFlag := true }
  have count : (predictedEntry idx num s { interFlag := true }).2.numDeltaPocs.toNat ≤ 32 := by
    unfold predictedEntry
    simp only
    split
    · exact Nat.zero_le 32
    · refine (predictedCount_count_le _ _ _).trans ?_
      have prior := numDeltaPocsAt_le (s := setSeq (.rps .reference) (readDeltaIdx idx num s))
        (by simpa only [setSeq_rps, (readDeltaIdx_moves idx num s).rps_eq] using h)
      simpa using prior _
  generalize (predictedEntry idx num s { interFlag := true }).2 = e at same count
  simp only [RpsEntry.mk.injEq] at same
  obtain ⟨inter, neg, pos, -, s0, s1⟩ := same
  exact ⟨by rw [EntryShape, if_pos inter]; exact ⟨neg, pos, s0, s1⟩, count⟩

/-- A pair of the negative list changes nothing of an entry but that list, which it makes longer by one (R169). -/
theorem readS0Pair_besidesList (i : Nat) (p : State × RpsEntry) :
    { (readS0Pair i p).2 with s0 := [] } = { p.2 with s0 := [] } := rfl

theorem readS0Pair_length (i : Nat) (p : State × RpsEntry) : (readS0Pair i p).2.s0.length = p.2.s0.length + 1 :=
  List.length_append

/-- The same of the positive list (R170). -/
theorem readS1Pair_besidesList (i : Nat) (p : State × RpsEntry) :
    { (readS1Pair i p).2 with s1 := [] } = { p.2 with s1 := [] } := rfl

theorem readS1Pair_length (i : Nat) (p : State × RpsEntry) : (readS1Pair i p).2.s1.length = p.2.s1.length + 1 :=
  List.length_append

/-- The two lists get as many pairs as the counts say, whose sum becomes `NumDeltaPocs` (R168 to R170). -/
theorem readPairs_entry (s : State) (e : RpsEntry) :
    { (readPairs s e).2 with s0 := [], s1 := [] } =
        { e with numDeltaPocs := e.numNegativePics + e.numPositivePics, s0 := [], s1 := [] } ∧
      (readPairs s e).2.s0.length = e.s0.length + e.numNegativePics.toNat ∧
      (readPairs s e).2.s1.length = e.s1.length + e.numPositivePics.toNat := by
  unfold readPairs
  simp only
  generalize hp : repeatFor readS0Pair _ _ _ = p
  have neg := repeatFor_const (fun p : State × RpsEntry => { p.2 with s0 := [] }) readS0Pair_besidesList
    e.numNegativePics.toNat 0
    (setSeq (.rps .negativeList) s, { e with numDeltaPocs := e.numNegativePics + e.numPositivePics })
  have negLength := repeatFor_measure_eq (fun p : State × RpsEntry => p.2.s0.length) readS0Pair_length
    e.numNegativePics.toNat 0
    (setSeq (.rps .negativeList) s, { e with numDeltaPocs := e.numNegativePics + e.numPositivePics })
  rw [hp] at neg negLength
  have pos := repeatFor_const (fun p : State × RpsEntry => { p.2 with s1 := [] }) readS1Pair_besidesList
    e.numPositivePics.toNat 0 (setSeq (.rps .positiveList) p.1, p.2)
  have posLength := repeatFor_measure_eq (fun p : State × RpsEntry => p.2.s1.length) readS1Pair_length
    e.numPositivePics.toNat 0 (setSeq (.rps .positiveList) p.1, p.2)
  generalize (repeatFor readS1Pair _ _ _).2 = q at *
  simp only [RpsEntry.mk.injEq] at neg pos ⊢
  simp_all

theorem tooManyPictures_iff (e : RpsEntry) :
    tooManyPictures e = true ↔ 16 < e.numNegativePics.toNat ∨ 16 < e.numPositivePics.toNat := by
  rw [tooManyPictures, Bool.or_eq_true, decide_eq_true_eq, decide_eq_true_eq, Config.maxRef]

/-- An explicit entry with too many pictures has counts and nothing more (R167). -/
theorem entryOk_of_tooManyPictures {neg pos : Word} (h : 16 < neg.toNat ∨ 16 < pos.toNat) :
    EntryOk { numNegativePics := neg, numPositivePics := pos } :=
  ⟨by rw [EntryShape, if_neg (by simp), if_pos h]; exact ⟨rfl, rfl, rfl⟩, Nat.zero_le 32⟩

/-- An explicit entry with at most 16 pictures on each side has both lists (R168 to R170). -/
theorem readPairs_ok (s : State) {neg pos : Word} (h : ¬ (16 < neg.toNat ∨ 16 < pos.toNat)) :
    EntryOk (readPairs s { numNegativePics := neg, numPositivePics := pos }).2 := by
  obtain ⟨same, s0, s1⟩ := readPairs_entry s { numNegativePics := neg, numPositivePics := pos }
  generalize (readPairs s { numNegativePics := neg, numPositivePics := pos }).2 = e at same s0 s1
  simp only [RpsEntry.mk.injEq] at same
  obtain ⟨inter, hneg, hpos, count, -, -⟩ := same
  have sum : e.numDeltaPocs.toNat = neg.toNat + pos.toNat := by
    rw [count, BitVec.toNat_add, Nat.mod_eq_of_lt (by omega)]
  refine ⟨?_, by omega⟩
  rw [EntryShape, if_neg (by simp [inter]), hneg, hpos, if_neg h]
  exact ⟨sum, by simpa using s0, by simpa using s1⟩

/-- An explicit entry is as R167 to R170 say. -/
theorem explicitEntry_ok (s : State) : EntryOk (explicitEntry s {}).2 := by
  unfold explicitEntry
  simp only [tooManyPictures_iff]
  split
  · exact entryOk_of_tooManyPictures ‹_›
  · exact readPairs_ok _ ‹_›

/-- The entry that the routine starts from holds its prediction flag and nothing else (R160, R161). -/
theorem readPredictionFlag_entry (idx : Word) (s : State) :
    (readPredictionFlag idx s).2 = { interFlag := (readPredictionFlag idx s).2.interFlag } := by
  unfold readPredictionFlag
  simp only
  split <;> rfl

/-- Each entry that step Q11 decodes is as it should be, if those before it are (R160 to R171). -/
theorem shortTermRps_ok (idx num : Word) {s : State} (h : ∀ e ∈ s.rps, EntryOk e) :
    EntryOk (shortTermRps idx num s).2 := by
  have entry := readPredictionFlag_entry idx s
  unfold shortTermRps
  simp only
  split
  · rename_i inter
    rw [entry, inter]
    exact predictedEntry_ok idx num (by rwa [(readPredictionFlag_moves idx s).rps_eq])
  · rename_i inter
    rw [entry, Bool.eq_false_of_not_eq_true inter]
    exact explicitEntry_ok _

end Sys2Proof.Machine

namespace Sys2Proof.Machine

/-! ### What the steps of the walk leave of the sizes -/

/-- The operands of GEOM (R196). -/
def geometryOf (s : State) : Word × Word × ConfWindow := (s.sps.picWidth, s.sps.picHeight, s.sps.window)

/-- The operands of GEOM, and the two sizes on which the invariant's account of `SLOI` and `RPS` rests. -/
def sizesOf (s : State) : (Word × Word × ConfWindow) × BitVec 3 × Word :=
  (geometryOf s, s.sps.maxSubLayersMinus1, s.sps.numShortTermRefPicSets)

theorem GeomOperandsSmall.congr {s t : State} (h : GeomOperandsSmall s) (e : geometryOf t = geometryOf s) :
    GeomOperandsSmall t := by
  simp only [geometryOf, Prod.mk.injEq] at e
  obtain ⟨width, height, window⟩ := e
  obtain ⟨hw, hh, hl, hr, ht, hb⟩ := h
  exact ⟨by rwa [width], by rwa [height], by rwa [window], by rwa [window], by rwa [window], by rwa [window]⟩

theorem readNalHeader_geometry (s : State) : geometryOf (readNalHeader s) = geometryOf s := by
  simp [readNalHeader, geometryOf]

theorem seqQ2_geometry (s : State) : geometryOf (seqQ2 s) = geometryOf s := by simp [seqQ2, geometryOf]

theorem readPtl_geometry (s : State) : geometryOf (readPtl s) = geometryOf s := by simp [readPtl, geometryOf]

theorem seqQ4_sizes (s : State) : sizesOf (seqQ4 s) = sizesOf s := by
  unfold seqQ4
  simp only
  split <;> simp [sizesOf, geometryOf]

theorem seqQ5_layers (s : State) : (seqQ5 s).sps.maxSubLayersMinus1 = s.sps.maxSubLayersMinus1 := by
  unfold seqQ5
  simp only
  split <;> simp [readConfWindow]

/-- Step Q5 puts Exp-Golomb values into the operands of GEOM (R132). -/
theorem seqQ5_geom {s : State} (h : GeomOperandsSmall s) : GeomOperandsSmall (seqQ5 s) := by
  obtain ⟨-, -, hl, hr, ht, hb⟩ := h
  unfold seqQ5
  simp only
  split
  · constructor <;> simpa [readConfWindow] using readField_ue_val_lt _
  · constructor <;> simp only [readSps_sps, setSeq_sps]
    · exact readField_ue_val_lt _
    · exact readField_ue_val_lt _
    · exact hl
    · exact hr
    · exact ht
    · exact hb

theorem seqQ6_sizes (s : State) : sizesOf (seqQ6 s) = sizesOf s := by simp [seqQ6, sizesOf, geometryOf]

theorem seqQ8_sizes (s : State) : sizesOf (seqQ8 s) = sizesOf s := by simp [seqQ8, sizesOf, geometryOf]

theorem readScalingData_sizes (s : State) : sizesOf (readScalingData s) = sizesOf s := by
  unfold readScalingData
  simp only
  split
  · simp [sizesOf, geometryOf, (scalingListSkip_moves _).sps_eq]
  · simp [sizesOf, geometryOf]

theorem seqQ9_sizes (s : State) : sizesOf (seqQ9 s) = sizesOf s := by
  unfold seqQ9
  simp only
  split
  · rw [readScalingData_sizes]; simp [sizesOf, geometryOf]
  · simp [sizesOf, geometryOf]

theorem seqQ10_sizes (s : State) : sizesOf (seqQ10 s) = sizesOf s := by
  unfold seqQ10
  simp only
  split <;> simp [readPcm, sizesOf, geometryOf]

theorem readLongTermEntries_sps (s : State) : (readLongTermEntries s).sps = s.sps :=
  ((longTermSkip_moves _ 0 _).sps_eq).trans (readTemp_sps _ _ s)

theorem seqQ12_sizes (s : State) : sizesOf (seqQ12 s) = sizesOf s := by
  unfold seqQ12
  simp only
  split <;> simp [readLongTermEntries_sps, sizesOf, geometryOf]

/-! ### Step Q7: one entry of `SLOI` -/

/-- What an iteration of step Q7's loop keeps of the record. -/
def besidesSloi (s : State) : SpsRecord × List RpsEntry × VuiRecord × BsrRecord × ErrCode × Bool :=
  (s.sps, s.rps, s.vui, s.bsr, s.result, s.recValid)

theorem readSloiEntry_besidesSloi (i : Nat) (s : State) : besidesSloi (readSloiEntry i s) = besidesSloi s := by
  simp [readSloiEntry, besidesSloi]

theorem readSloiEntry_length (i : Nat) (s : State) : (readSloiEntry i s).sloi.length = s.sloi.length + 1 := by
  simp [readSloiEntry]

/-- Step Q7 keeps everything of the record but `SLOI` and its own flag (R134). -/
theorem seqQ7_besidesSloi (s : State) :
    besidesSloi (seqQ7 s) =
      besidesSloi (readSps .f (fun v r => { r with sloiPresentFlag := isOne v }) (setSeq .q7 s)) :=
  repeatFor_const besidesSloi readSloiEntry_besidesSloi _ _ _

/-- With no sub-layers but one the loop runs once, whatever the flag says (R134, R135). -/
theorem seqQ7_length {s : State} (h : s.sps.maxSubLayersMinus1 = 0) : (seqQ7 s).sloi.length = s.sloi.length + 1 := by
  unfold seqQ7
  simp only
  rw [repeatFor_measure_eq (fun t : State => t.sloi.length) readSloiEntry_length]
  simp [firstSubLayer, h]

/-! ### Step Q11: the entries of `RPS` -/

/-- What an iteration of step Q11's loop keeps of the record. -/
def besidesRps (s : State) : SpsRecord × List SloiEntry × VuiRecord × BsrRecord × Bool :=
  (s.sps, s.sloi, s.vui, s.bsr, s.recValid)

theorem appendRpsEntry_besidesRps (idx : Word) (s : State) : besidesRps (appendRpsEntry idx s) = besidesRps s :=
  ((shortTermRps_moves idx s.sps.numShortTermRefPicSets (noteTemps (fun r => { r with idx := idx }) s)).mono
    (part := besidesRps) fun e => by simp only [recordPart, Prod.mk.injEq] at e; simp [besidesRps, e]).keeps

/-- Step Q11 appends the entry it decoded (R140). -/
theorem appendRpsEntry_rps (idx : Word) (s : State) :
    ∃ e, (appendRpsEntry idx s).rps = s.rps ++ [e] ∧ ((∀ d ∈ s.rps, EntryOk d) → EntryOk e) := by
  refine ⟨(shortTermRps idx s.sps.numShortTermRefPicSets (noteTemps (fun r => { r with idx := idx }) s)).2, ?_,
    fun h => shortTermRps_ok idx _ h⟩
  simp only [appendRpsEntry, setSeq_rps, pushRps_rps, (shortTermRps_moves _ _ _).rps_eq, noteTemps_rps]

theorem rpsLoop_length_le (count : Nat) (idx : Word) (s : State) :
    (walkState (rpsLoop count idx s)).rps.length ≤ s.rps.length + count := by
  induction count generalizing idx s with
  | zero => exact Nat.le_refl _
  | succ count ih =>
    obtain ⟨e, he, -⟩ := appendRpsEntry_rps idx s
    have grown : (appendRpsEntry idx s).rps.length = s.rps.length + 1 := by rw [he, List.length_append]; rfl
    unfold rpsLoop
    simp only
    split
    · simp only [walkState, reportLatch, setResult_rps]; omega
    · have rest := ih (idx + 1) (appendRpsEntry idx s); omega

/-- Step Q11's loop keeps the rest of the record and leaves entries as they should be; where it stops, `RESULT` is the
latch (R140, R141). -/
theorem rpsLoop_ends (count : Nat) (idx : Word) {s : State} (h : ∀ e ∈ s.rps, EntryOk e) :
    besidesRps (walkState (rpsLoop count idx s)) = besidesRps s ∧
      (∀ e ∈ (walkState (rpsLoop count idx s)).rps, EntryOk e) ∧
      ∀ t, rpsLoop count idx s = .stop t → t.result = t.err := by
  obtain ⟨n, t, -, ⟨hkeep, hok⟩, ⟨hloop, -⟩ | ⟨hloop, -⟩⟩ :=
    rpsLoop_keeps (P := fun _ t => besidesRps t = besidesRps s ∧ ∀ e ∈ t.rps, EntryOk e)
      (fun idx t ⟨hkeep, hok⟩ => by
        obtain ⟨e, he, hnew⟩ := appendRpsEntry_rps idx t
        refine ⟨(appendRpsEntry_besidesRps idx t).trans hkeep, fun d hd => ?_⟩
        rw [he, List.mem_append, List.mem_singleton] at hd
        rcases hd with hd | rfl
        · exact hok d hd
        · exact hnew hok)
      count idx s ⟨rfl, h⟩
  · rw [hloop]
    exact ⟨hkeep, hok, fun u hu => by simp at hu⟩
  · rw [hloop]
    refine ⟨hkeep, hok, fun u hu => ?_⟩
    obtain rfl : reportLatch t = u := by simpa using hu
    rfl

/-! ### Step Q13: `VUI.*` and `BSR.*` -/

theorem applySarLookup_bsr (s : State) : (applySarLookup s).bsr = s.bsr := by
  unfold applySarLookup
  split <;> simp

theorem readSar_bsr (s : State) : (readSar s).bsr = s.bsr := by
  unfold readSar
  split <;> simp [applySarLookup_bsr]

theorem vuiAspectRatio_bsr (s : State) : (vuiAspectRatio s).bsr = s.bsr := by
  unfold vuiAspectRatio
  simp only
  split <;> simp [readSar_bsr]

theorem vuiOverscan_bsr (s : State) : (vuiOverscan s).bsr = s.bsr := by
  unfold vuiOverscan
  simp only
  split <;> simp

theorem vuiSignalFields_bsr (s : State) : (vuiSignalFields s).bsr = s.bsr := by
  unfold vuiSignalFields
  simp only
  split <;> simp [vuiColourDescription]

theorem vuiVideoSignal_bsr (s : State) : (vuiVideoSignal s).bsr = s.bsr := by
  unfold vuiVideoSignal
  simp only
  split <;> simp [vuiSignalFields_bsr]

theorem vuiChromaLocation_bsr (s : State) : (vuiChromaLocation s).bsr = s.bsr := by
  unfold vuiChromaLocation
  simp only
  split <;> simp

theorem vuiThreeFlags_bsr (s : State) : (vuiThreeFlags s).bsr = s.bsr := by simp [vuiThreeFlags]

theorem vuiDisplayWindow_bsr (s : State) : (vuiDisplayWindow s).bsr = s.bsr := by
  unfold vuiDisplayWindow
  simp only
  split <;> simp

theorem vuiPocProportional_bsr (s : State) : (vuiPocProportional s).bsr = s.bsr := by
  unfold vuiPocProportional
  simp only
  split <;> simp

theorem vuiTiming_bsr (s : State) : (vuiTiming s).bsr = s.bsr := by
  unfold vuiTiming
  simp only
  split <;> simp [vuiHrdFlag, vuiPocProportional_bsr]

/-- No group before the bitstream restrictions writes `BSR.*` (R181 to R189). -/
theorem vuiGroups_bsr (s : State) : (vuiGroups s).bsr = s.bsr := by
  simp only [vuiGroups, vuiTiming_bsr, vuiDisplayWindow_bsr, vuiThreeFlags_bsr, vuiChromaLocation_bsr,
    vuiVideoSignal_bsr, vuiOverscan_bsr, vuiAspectRatio_bsr]

theorem vuiRestrictions_vui (s : State) : (vuiRestrictions s).vui = s.vui := by simp [vuiRestrictions]

/-- `BSR.*` is written only under its flag (R190). -/
theorem vuiRestrictionFlag_bsr {s : State} (h : (vuiRestrictionFlag s).vui.bitstreamRestrictionFlag = false) :
    (vuiRestrictionFlag s).bsr = s.bsr := by
  unfold vuiRestrictionFlag at h ⊢
  simp only at h ⊢
  split at h
  · rename_i flag
    rw [vuiRestrictions_vui, flag] at h
    cases h
  · rename_i flag
    rw [if_neg flag]
    simp

/-- The VUI routine leaves `BSR.*` alone where the flag is 0 after it, the HRD exit among these cases (R189, R190). -/
theorem vuiParameters_bsr {s : State} (h : (vuiParameters s).vui.bitstreamRestrictionFlag = false) :
    (vuiParameters s).bsr = s.bsr := by
  unfold vuiParameters at h ⊢
  simp only at h ⊢
  split at h
  · rename_i hrd
    rw [if_pos hrd, vuiGroups_bsr]
  · rename_i hrd
    rw [if_neg hrd, vuiRestrictionFlag_bsr h, vuiGroups_bsr]

end Sys2Proof.Machine

namespace Sys2Proof.Machine

/-! ### The record on its way through the walk -/

/-- The record before step Q11: `SLOI` has `layers` entries, `RPS`, `VUI.*` and `BSR.*` are clear. -/
structure EarlyRecord (layers : Nat) (s : State) : Prop where
  geom : GeomOperandsSmall s
  sloi : s.sloi.length = layers
  rps : s.rps = []
  vui : s.vui = {}
  bsr : s.bsr = {}

/-- The record after step Q11 and before the VUI routine. -/
structure LateRecord (s : State) : Prop where
  passed : PassedQ3 s
  geom : GeomOperandsSmall s
  sloi : s.sloi.length = 1
  entries : ∀ e ∈ s.rps, EntryOk e
  announced : s.rps.length ≤ s.sps.numShortTermRefPicSets.toNat
  vui : s.vui = {}
  bsr : s.bsr = {}

section
variable {n : Nat} {s t : State}

theorem Moves.recValid_eq (h : Moves besidesSps s t) : t.recValid = s.recValid :=
  congrArg (fun p => p.2.2.2.2.2) h.keeps

theorem PassedQ3.step (h : PassedQ3 s) (hm : Moves besidesSps s t)
    (hl : t.sps.maxSubLayersMinus1 = s.sps.maxSubLayersMinus1) : PassedQ3 t :=
  ⟨hm.recValid_eq.trans h.1, hl.trans h.2⟩

theorem EarlyRecord.step (h : EarlyRecord n s) (hm : Moves besidesSps s t) (hg : GeomOperandsSmall t) :
    EarlyRecord n t := by
  have keeps := hm.keeps
  simp only [besidesSps, Prod.mk.injEq] at keeps
  obtain ⟨sloi, rps, vui, bsr, -, -⟩ := keeps
  exact ⟨hg, by rw [sloi, h.sloi], by rw [rps, h.rps], by rw [vui, h.vui], by rw [bsr, h.bsr]⟩

/-- A step that keeps the sizes: Q4, Q6, Q8, Q9 and Q10. -/
theorem EarlyRecord.sizedStep (h : PassedQ3 s ∧ EarlyRecord n s) (hm : Moves besidesSps s t)
    (hs : sizesOf t = sizesOf s) : PassedQ3 t ∧ EarlyRecord n t :=
  ⟨h.1.step hm (congrArg (fun p => p.2.1) hs), h.2.step hm (h.2.geom.congr (congrArg (fun p => p.1) hs))⟩

/-- Step Q12 and the flags of step Q13 keep the sizes too. -/
theorem LateRecord.sizedStep (h : LateRecord s) (hm : Moves besidesSps s t) (hs : sizesOf t = sizesOf s) :
    LateRecord t := by
  have keeps := hm.keeps
  simp only [besidesSps, Prod.mk.injEq] at keeps
  obtain ⟨sloi, rps, vui, bsr, -, -⟩ := keeps
  refine ⟨h.passed.step hm (congrArg (fun p => p.2.1) hs), h.geom.congr (congrArg (fun p => p.1) hs),
    by rw [sloi, h.sloi], by rw [rps]; exact h.entries, ?_, by rw [vui, h.vui], by rw [bsr, h.bsr]⟩
  rw [rps, show t.sps.numShortTermRefPicSets = _ from congrArg (fun p => p.2.2) hs]
  exact h.announced

/-- Writing `RESULT` or `REC_VALID` leaves such a record. -/
theorem EarlyRecord.result (h : EarlyRecord n s) (e : ErrCode) : EarlyRecord n (setResult e s) :=
  ⟨h.geom.congr rfl, h.sloi, h.rps, h.vui, h.bsr⟩

theorem EarlyRecord.recValid (h : EarlyRecord n s) (b : Bool) : EarlyRecord n (setRecValid b s) :=
  ⟨h.geom.congr rfl, h.sloi, h.rps, h.vui, h.bsr⟩

/-- A run that stops before step Q4 leaves such a record (R127, R130). -/
theorem EarlyRecord.recordOk (h : EarlyRecord 0 s) (hp : ¬ PassedQ3 s) : RecordOk s where
  entries := by rw [h.rps]; nofun
  announced := by rw [h.rps]; exact Nat.zero_le _
  oneSloi hp' := absurd hp' hp
  stopped _ := ⟨List.length_eq_zero_iff.1 h.sloi, h.rps, h.vui, h.bsr⟩
  noVui _ := h.vui
  noBsr _ := h.bsr

theorem LateRecord.recordOk (h : LateRecord s) : RecordOk s where
  entries := h.entries
  announced := h.announced
  oneSloi _ := h.sloi
  stopped hp := absurd h.passed hp
  noVui _ := h.vui
  noBsr _ := h.bsr

end

/-! ### The steps, one after the other -/

theorem seqQ7_early {s : State} (h : PassedQ3 s ∧ EarlyRecord 0 s) : PassedQ3 (seqQ7 s) ∧ EarlyRecord 1 (seqQ7 s) := by
  obtain ⟨⟨valid, layers⟩, early⟩ := h
  have keeps := seqQ7_besidesSloi s
  simp only [besidesSloi, readSps_sps, readSps_rps, readSps_vui, readSps_bsr, readSps_result, readSps_recValid,
    setSeq_sps, setSeq_rps, setSeq_vui, setSeq_bsr, setSeq_result, setSeq_recValid, Prod.mk.injEq] at keeps
  obtain ⟨sps, rps, vui, bsr, -, recValid⟩ := keeps
  exact ⟨⟨by rw [recValid, valid], by rw [sps]; exact layers⟩, early.geom.congr (by rw [geometryOf, sps]; rfl),
    by rw [seqQ7_length layers, early.sloi], by rw [rps, early.rps], by rw [vui, early.vui], by rw [bsr, early.bsr]⟩

theorem seqQ4toQ10_early {s : State} (h : PassedQ3 s ∧ EarlyRecord 0 s) :
    PassedQ3 (seqQ4toQ10 s) ∧ EarlyRecord 1 (seqQ4toQ10 s) := by
  have q4 := EarlyRecord.sizedStep h (seqQ4_moves s) (seqQ4_sizes s)
  have q5 : PassedQ3 (seqQ5 (seqQ4 s)) ∧ EarlyRecord 0 (seqQ5 (seqQ4 s)) :=
    ⟨q4.1.step (seqQ5_moves _) (seqQ5_layers _), q4.2.step (seqQ5_moves _) (seqQ5_geom q4.2.geom)⟩
  have q6 := EarlyRecord.sizedStep q5 (seqQ6_moves _) (seqQ6_sizes _)
  have q7 := seqQ7_early q6
  have q8 := EarlyRecord.sizedStep q7 (seqQ8_moves _) (seqQ8_sizes _)
  have q9 := EarlyRecord.sizedStep q8 (seqQ9_moves _) (seqQ9_sizes _)
  exact EarlyRecord.sizedStep q9 (seqQ10_moves _) (seqQ10_sizes _)

/-- Step Q11, whether it goes on or stops at its checkpoint, where `RESULT` is the latch (R139 to R141). -/
theorem seqQ11_late {s : State} (h : PassedQ3 s ∧ EarlyRecord 1 s) :
    LateRecord (walkState (seqQ11 s)) ∧ ∀ t, seqQ11 s = .stop t → t.result = t.err := by
  obtain ⟨⟨valid, layers⟩, early⟩ := h
  obtain ⟨t, ht⟩ : ∃ t, t = readSps .ue (fun v r => { r with numShortTermRefPicSets := v }) (setSeq .q11 s) := ⟨_, rfl⟩
  have hloop : seqQ11 s = rpsLoop t.sps.numShortTermRefPicSets.toNat 0 t := by rw [ht]; rfl
  have rps : t.rps = [] := by rw [ht]; simp [early.rps]
  have length := rpsLoop_length_le t.sps.numShortTermRefPicSets.toNat 0 t
  obtain ⟨keeps, entries, result⟩ := rpsLoop_ends t.sps.numShortTermRefPicSets.toNat 0 (s := t) (by rw [rps]; nofun)
  rw [← hloop] at length keeps entries result
  generalize walkState (seqQ11 s) = u at length keeps entries
  simp only [besidesRps, Prod.mk.injEq] at keeps
  obtain ⟨sps, sloi, vui, bsr, recValid⟩ := keeps
  refine ⟨⟨⟨?_, ?_⟩, early.geom.congr ?_, ?_, entries, ?_, ?_, ?_⟩, result⟩
  · rw [recValid, ht]; simpa using valid
  · rw [sps, ht]; simpa using layers
  · rw [geometryOf, sps, ht]; simp [geometryOf]
  · rw [sloi, ht]; simpa using early.sloi
  · rw [sps]; simpa [rps] using length
  · rw [vui, ht]; simpa using early.vui
  · rw [bsr, ht]; simpa using early.bsr

/-- Step Q13 ends with a record as it should be (R144, R145, R189, R192). -/
theorem seqQ13_record {s : State} (h : LateRecord s) :
    RecordOk (seqQ13 s) ∧ GeomOperandsSmall (seqQ13 s) ∧ PassedQ3 (seqQ13 s) := by
  unfold seqQ13
  simp only
  generalize ht : readSps .f _ (readSps .f _ _) = t
  have late : LateRecord t := ht ▸
    h.sizedStep (((moves_openStep _ _ _ s).trans (moves_readSps _ _ _)).trans (moves_readSps _ _ _))
      (by simp [sizesOf, geometryOf])
  split
  · rename_i flag
    have keeps := (vuiParameters_moves t).keeps
    have noBsr := vuiParameters_bsr (s := t)
    generalize vuiParameters t = u at keeps noBsr
    simp only [besidesVui, Prod.mk.injEq] at keeps
    obtain ⟨sps, sloi, rps, -, recValid⟩ := keeps
    have passed : PassedQ3 u := ⟨recValid.trans late.passed.1, sps ▸ late.passed.2⟩
    refine ⟨⟨?_, ?_, fun _ => ?_, fun hp => absurd passed hp, fun hv => ?_, fun hb => (noBsr hb).trans late.bsr⟩,
      late.geom.congr (by rw [geometryOf, setSeq_sps, sps]; rfl), passed⟩
    · rw [setSeq_rps, rps]; exact late.entries
    · rw [setSeq_rps, setSeq_sps, rps, sps]; exact late.announced
    · rw [setSeq_sloi, sloi]; exact late.sloi
    · rw [setSeq_sps, sps, flag] at hv; cases hv
  · exact ⟨late.recordOk, late.geom, late.passed⟩

/-- What the invariant says of the record does not look at the cursor, `RESULT`, `SEQ` or the temporaries. -/
theorem record_congr {s t : State} (h : RecordOk s ∧ GeomOperandsSmall s)
    (e : recordPart t = recordPart { s with result := t.result }) : RecordOk t ∧ GeomOperandsSmall t := by
  obtain ⟨⟨entries, announced, oneSloi, stopped, noVui, noBsr⟩, width, height, left, right, top, bottom⟩ := h
  rcases s with ⟨⟩
  rcases t with ⟨⟩
  simp only [recordPart, Prod.mk.injEq] at e
  obtain ⟨rfl, rfl, rfl, rfl, rfl, -, rfl⟩ := e
  exact ⟨⟨entries, announced, oneSloi, stopped, noVui, noBsr⟩, width, height, left, right, top, bottom⟩

/-! ### Where the walk ends -/

/-- What a walk leaves (R206, R210): a record as it should be, and in `RESULT` and `REC_VALID` the unit type, or the
latch or nothing. -/
structure WalkEnd (s : State) : Prop where
  record : RecordOk s ∧ GeomOperandsSmall s
  result : (s.recValid = false ∧ s.result = .wrongUnitType) ∨ (s.recValid = true ∧ (s.result = .ok ∨ s.result = s.err))

/-- The unit-type stop (R127). -/
theorem wrongUnit_end {s : State} (h : EarlyRecord 0 s) :
    WalkEnd (setRecValid false (setResult .wrongUnitType s)) :=
  have stopped := (h.result .wrongUnitType).recValid false
  ⟨⟨stopped.recordOk fun hp => Bool.false_ne_true hp.1, stopped.geom⟩, .inl ⟨rfl, rfl⟩⟩

/-- The sub-layer exit (R130). -/
theorem subLayerExit_end {s : State} (h : EarlyRecord 0 s) (valid : s.recValid = true)
    (layers : s.sps.maxSubLayersMinus1 ≠ 0) : WalkEnd (setResult .ok s) :=
  have stopped := h.result .ok
  ⟨⟨stopped.recordOk fun hp => layers hp.2, stopped.geom⟩, .inr ⟨valid, .inl rfl⟩⟩

/-- The final return reports the latch (R146). -/
theorem seqQ14_end {s : State} (h : RecordOk s ∧ GeomOperandsSmall s) (hp : PassedQ3 s) : WalkEnd (seqQ14 s) :=
  ⟨record_congr h rfl, .inr ⟨hp.1, .inr rfl⟩⟩

theorem seqQ12toQ14_end {s : State} (h : LateRecord s) : WalkEnd (seqQ12toQ14 s) := by
  obtain ⟨record, geom, passed⟩ := seqQ13_record (h.sizedStep (seqQ12_moves s) (seqQ12_sizes s))
  exact seqQ14_end ⟨record, geom⟩ passed

theorem walkSps_end {s : State} (h : EarlyRecord 0 s) : WalkEnd (walkState (walkSps s)) := by
  have header := h.step (readNalHeader_moves s) (h.geom.congr (readNalHeader_geometry s))
  have q1 : EarlyRecord 0 (afterQ1 s) := header.recValid true
  have q2 := q1.step (seqQ2_moves _) (q1.geom.congr (seqQ2_geometry _))
  have ptl : EarlyRecord 0 (afterPtl s) := q2.step (readPtl_moves _) (q2.geom.congr (readPtl_geometry _))
  have valid : (afterPtl s).recValid = true :=
    (Moves.trans (seqQ2_moves _) (readPtl_moves (seqQ2 (afterQ1 s)))).recValid_eq
  have q11 : (afterPtl s).sps.maxSubLayersMinus1 = 0 → _ := fun layers =>
    seqQ11_late (seqQ4toQ10_early ⟨⟨valid, layers⟩, ptl⟩)
  rcases walkSps_cases s with ⟨-, e⟩ | ⟨-, layers, e⟩ | ⟨-, layers, t, ht, e⟩ | ⟨-, layers, t, ht, e⟩ <;> rw [e]
  · exact wrongUnit_end header
  · exact subLayerExit_end ptl valid layers
  · obtain ⟨late, result⟩ := q11 layers
    rw [ht] at late
    exact ⟨⟨late.recordOk, late.geom⟩, .inr ⟨late.passed.1, .inr (result t ht)⟩⟩
  · have late := (q11 layers).1
    rw [ht] at late
    exact seqQ12toQ14_end late

/-! ### The invariant -/

theorem reset_early : EarlyRecord 0 State.reset :=
  ⟨⟨by decide, by decide, by decide, by decide, by decide, by decide⟩, rfl, rfl, rfl, rfl⟩

theorem startDsps_early (s : State) : EarlyRecord 0 (startDsps s) :=
  ⟨reset_early.geom.congr rfl, rfl, rfl, rfl, rfl⟩

theorem decodeSps_record (s : State) : RecordOk (decodeSps s) ∧ GeomOperandsSmall (decodeSps s) := by
  have walk := (walkSps_end (startDsps_early s)).record
  have same := decodeSps_recordPart s
  generalize walkState (walkSps (startDsps s)) = u at walk same
  exact record_congr walk (by rw [same]; simp only [recordPart, Prod.mk.injEq] at same ⊢; simp [same])

/-- A state with the record of one that meets the invariant, and a buffer and a cursor of its own. -/
theorem Inv.congr {s t : State} (h : Inv s) (hc : CursorInside t) (hb : BufferInside t) (hq : t.seq = s.seq)
    (hr : recordPart t = recordPart s) : Inv t := by
  obtain ⟨record, geom⟩ := record_congr ⟨h.record, h.geom⟩
    (hr.trans (by simp only [recordPart, Prod.mk.injEq] at hr ⊢; simp [hr]))
  exact ⟨hc, hb, by rw [Quiescent, hq]; exact h.quiescent, record, geom⟩

/-- Settles O35: nothing was recorded, and no byte is in the buffer. -/
theorem invariantAtReset : Obligations.InvariantAtReset :=
  ⟨Nat.le_refl 0, ⟨reset_wf, nofun⟩, .inl rfl, reset_early.recordOk (by simp [PassedQ3, State.reset]), reset_early.geom⟩

/-- Reset leaves what the invariant speaks of as `State.reset` has it (R230). -/
theorem hostReset_inv (s : State) : Inv (hostReset s) :=
  invariantAtReset.congr (Nat.le_refl 0) ⟨reset_wf, nofun⟩ rfl rfl

theorem loadBuffer_inv (bytes : List Byte) {s : State} (h : Inv s) : Inv (loadBuffer bytes s) :=
  h.congr (Nat.zero_le _) ⟨setBuffer_wf bytes s, fun c hc => (bufferFrom_inside bytes 0 c hc).trans_eq (Nat.zero_add _)⟩
    rfl rfl

theorem decodeSps_inv {s : State} (h : BufferInside s) : Inv (decodeSps s) := by
  obtain ⟨record, geom⟩ := decodeSps_record s
  refine ⟨?_, ?_, .inr (decodeSps_seq s), record, geom⟩
  · rw [CursorInside, streamEnd, decodeSps_len]; exact decodeSps_inside s
  · rwa [BufferInside, decodeSps_buf, decodeSps_len]

theorem CursorOnly.inv {s t : State} (hc : CursorOnly s t) (h : Inv s) : Inv t := by
  have inside := hc.inside h.cursor
  rw [hc.frame]
  exact h.congr inside h.buffer rfl rfl

/-- Settles O34: a DSPS leaves a record as it should be whatever it found, LOAD and reset give a buffer in canonical
form, and every other step moves the cursor alone. -/
theorem invariantKept : Obligations.InvariantKept := by
  intro s t h hstep
  obtain ⟨rest, hc | ⟨-, rfl⟩ | ⟨bytes, -, rfl⟩ | ⟨-, rfl⟩⟩ := step_cases hstep
  · exact hc.inv (h.congr h.cursor h.buffer rfl rfl)
  · exact decodeSps_inv h.buffer
  · exact loadBuffer_inv bytes (h.congr h.cursor h.buffer rfl rfl)
  · exact hostReset_inv _

/-- Settles O43: `RESULT` is `OK` or the latch wherever there is a record, and the latch is never 5. -/
theorem noRecordMeansWrongUnitType : Obligations.NoRecordMeansWrongUnitType := by
  intro s t h
  obtain rfl : decodeSps s = t := by simpa only [exec, execDsps, Host.Outcome.next.injEq] using h
  have latch := decodeSps_err s
  refine ⟨latch, ?_⟩
  have result := (walkSps_end (startDsps_early s)).result
  rw [decodeSps] at latch ⊢
  generalize walkState (walkSps (startDsps s)) = u at latch result
  rcases result with ⟨valid, result⟩ | ⟨valid, result | result⟩
  · exact ⟨fun _ => result, fun _ => valid⟩
  · constructor
    · intro hv; exact absurd (valid.symm.trans hv) (by decide)
    · intro hr; exact absurd (result.symm.trans hr) (by decide)
  · constructor
    · intro hv; exact absurd (valid.symm.trans hv) (by decide)
    · intro hr; exact absurd (result.symm.trans hr) latch

end Sys2Proof.Machine

namespace Sys2Proof.Machine

/-! ### The same state over another buffer

Every operation takes twins to twins: the lemmas `twin_…`, tagged `gcongr` so that a run of reads and stores is taken in
one step. What is proved by hand is what looks at the buffer (the reads), and that a branch or a loop bound is the same
on both sides. -/

/-- `t` is `s` over the buffer `m`, which reads as that of `s` does at every address below `LEN`. -/
structure Twin (m : Memory) (s t : State) : Prop where
  frame : t = { s with buf := m }
  bytes : ∀ a < s.len, memRead m a = memRead s.buf a

/-- Two branches of one test, each looked at where the test goes its way. -/
theorem ite_rel_of {α : Type} {R : α → α → Prop} {c d : Prop} [Decidable c] [Decidable d]
    {a b a' b' : α} (hc : d ↔ c) (ha : c → R a a') (hb : ¬ c → R b b') : R (if c then a else b) (if d then a' else b') := by
  by_cases h : c
  · rw [if_pos h, if_pos (hc.2 h)]; exact ha h
  · rw [if_neg h, if_neg (mt hc.1 h)]; exact hb h

/-- Two branches of one test. -/
theorem ite_rel {α : Type} {R : α → α → Prop} {c d : Prop} [Decidable c] [Decidable d]
    {a b a' b' : α} (hc : d ↔ c) (ha : R a a') (hb : R b b') : R (if c then a else b) (if d then a' else b') :=
  ite_rel_of hc (fun _ => ha) fun _ => hb

/-- Two runs of one loop. -/
theorem repeatFor_pair {α : Type} {R : α → α → Prop} {body : Nat → α → α}
    (h : ∀ i {a b}, R a b → R (body i a) (body i b)) (count first : Nat) {a b : α} (hab : R a b) :
    R (repeatFor body count first a) (repeatFor body count first b) := by
  induction count generalizing first a b with
  | zero => exact hab
  | succ count ih => exact ih (first + 1) (h first hab)

section
variable {m : Memory} {s t : State}

theorem Twin.buf (h : Twin m s t) : t.buf = m := by rw [h.frame]
theorem Twin.len (h : Twin m s t) : t.len = s.len := by rw [h.frame]
theorem Twin.pos (h : Twin m s t) : t.pos = s.pos := by rw [h.frame]
theorem Twin.err (h : Twin m s t) : t.err = s.err := by rw [h.frame]
theorem Twin.val (h : Twin m s t) : t.val = s.val := by rw [h.frame]
theorem Twin.sps (h : Twin m s t) : t.sps = s.sps := by rw [h.frame]
theorem Twin.vui (h : Twin m s t) : t.vui = s.vui := by rw [h.frame]
theorem Twin.temps (h : Twin m s t) : t.temps = s.temps := by rw [h.frame]
theorem Twin.params (h : Twin m s t) : t.params = s.params := by rw [h.frame]

theorem Twin.streamEnd_eq (h : Twin m s t) : streamEnd t = streamEnd s := by rw [streamEnd, h.len, streamEnd]

theorem Twin.failed_eq (h : Twin m s t) : failed t = failed s := by rw [failed, h.err, failed]

theorem Twin.tooFewBits_eq (h : Twin m s t) (p n : Nat) : tooFewBits t p n = tooFewBits s p n := by
  rw [tooFewBits, h.streamEnd_eq, tooFewBits]

/-! ### What is read of the buffer (R44, R113) -/

/-- The bits before the end of the stream are the same. -/
theorem Twin.streamBit_eq (h : Twin m s t) {p : Nat} (hp : p < streamEnd s) : streamBit m p = streamBit s.buf p := by
  rw [streamBit, streamBit, h.bytes (p / 8) (by unfold streamEnd at hp; omega)]

/-- So is a number whose bits remain before the end of the stream. -/
theorem Twin.streamBits_eq (h : Twin m s t) {p n : Nat} (hn : tooFewBits s p n = false) :
    streamBits m p n = streamBits s.buf p n := by
  rw [tooFewBits, streamEnd, decide_eq_false_iff_not] at hn
  cases n with
  | zero => rfl
  | succ n => exact streamBits_congr fun a ha => h.bytes a (by omega)

/-- The scan of leading zero bits tests for the end before it looks at a bit. -/
theorem Twin.scanZeros_eq (h : Twin m s t) (spare p lz : Nat) :
    scanZeros m (streamEnd s) spare p lz = scanZeros s.buf (streamEnd s) spare p lz := by
  induction spare generalizing p lz with
  | zero => rfl
  | succ spare ih =>
    unfold scanZeros
    by_cases hp : streamEnd s ≤ p
    · rw [if_pos hp, if_pos hp]
    · rw [if_neg hp, if_neg hp, h.streamBit_eq (Nat.lt_of_not_le hp), ih]

theorem Twin.leadingZeros_eq (h : Twin m s t) : leadingZeros t = leadingZeros s := by
  rw [leadingZeros, h.streamEnd_eq, h.pos, h.buf, h.scanZeros_eq, leadingZeros]

/-! ### The cursor operations -/

/-- A store gives the same over any buffer, and keeps the buffer and `LEN`. -/
theorem Twin.store (h : Twin m s t) (f : State → State) (hf : f { s with buf := m } = { f s with buf := m })
    (hk : (f s).buf = s.buf ∧ (f s).len = s.len) : Twin m (f s) (f t) :=
  ⟨by rw [h.frame, hf], by rw [hk.1, hk.2]; exact h.bytes⟩

@[gcongr] theorem twin_setSeq (q : Seq) (h : Twin m s t) : Twin m (setSeq q s) (setSeq q t) :=
  h.store _ rfl ⟨rfl, rfl⟩

@[gcongr] theorem twin_noteTemps (f : Temps → Temps) (h : Twin m s t) : Twin m (noteTemps f s) (noteTemps f t) :=
  h.store _ rfl ⟨rfl, rfl⟩

@[gcongr] theorem twin_setVal (v : Word) (h : Twin m s t) : Twin m (setVal v s) (setVal v t) :=
  h.store _ rfl ⟨rfl, rfl⟩

@[gcongr] theorem twin_setPos (p : Nat) (h : Twin m s t) : Twin m (setPos p s) (setPos p t) :=
  h.store _ rfl ⟨rfl, rfl⟩

@[gcongr] theorem twin_setResult (e : ErrCode) (h : Twin m s t) : Twin m (setResult e s) (setResult e t) :=
  h.store _ rfl ⟨rfl, rfl⟩

@[gcongr] theorem twin_setRecValid (b : Bool) (h : Twin m s t) : Twin m (setRecValid b s) (setRecValid b t) :=
  h.store _ rfl ⟨rfl, rfl⟩

@[gcongr] theorem twin_pushSloi (e : SloiEntry) (h : Twin m s t) : Twin m (pushSloi e s) (pushSloi e t) :=
  h.store _ rfl ⟨rfl, rfl⟩

@[gcongr] theorem twin_pushRps (e : RpsEntry) (h : Twin m s t) : Twin m (pushRps e s) (pushRps e t) :=
  h.store _ rfl ⟨rfl, rfl⟩

@[gcongr] theorem twin_takeError (e : ErrCode) (h : Twin m s t) : Twin m (takeError e s) (takeError e t) := by
  rw [takeError_eq, takeError_eq]
  exact h.store (fun u => { u with err := if u.err = .ok then e else u.err, val := 0 }) rfl ⟨rfl, rfl⟩

@[gcongr] theorem twin_recordError (e : ErrCode) (h : Twin m s t) : Twin m (recordError e s) (recordError e t) :=
  twin_takeError e h

/-- A fixed-width read looks at the bits it returns, and only if they are all there (R92). -/
theorem twin_readBits (n : Nat) (h : Twin m s t) : Twin m (readBits n s) (readBits n t) := by
  refine ite_rel (by rw [h.failed_eq]) (twin_setVal 0 h) ?_
  refine ite_rel_of (by rw [h.pos, h.tooFewBits_eq]) (fun _ => twin_takeError .truncated h) fun hn => ?_
  rw [h.buf, h.pos, h.streamBits_eq (by simpa using hn)]
  exact h.store (acceptRead _ n) rfl ⟨rfl, rfl⟩

/-- A variable-length read looks at the bits up to its terminator, and at the suffix only if it is all there
(R111, R113). -/
theorem twin_readUe (h : Twin m s t) : Twin m (readUe s) (readUe t) := by
  refine ite_rel (by rw [h.failed_eq]) (twin_setVal 0 h) ?_
  rw [h.leadingZeros_eq]
  cases leadingZeros s with
  | ranOut => exact twin_takeError .truncated h
  | tooLong => exact twin_takeError .malformed h
  | terminated lz p =>
    refine ite_rel_of (by rw [h.tooFewBits_eq]) (fun _ => twin_takeError .truncated h) fun hn => ?_
    rw [h.buf, ueValue, ueValue, h.streamBits_eq (by simpa using hn)]
    exact h.store (fun u => setPos (p + lz) (setVal _ u)) rfl ⟨rfl, rfl⟩

@[gcongr] theorem twin_readField (k : FieldKind) (h : Twin m s t) : Twin m (readField k s) (readField k t) := by
  cases k with
  | u n => exact twin_readBits n h
  | f => exact twin_readBits 1 h
  | ue => exact twin_readUe h

@[gcongr] theorem twin_skipField (k : FieldKind) (h : Twin m s t) : Twin m (skipField k s) (skipField k t) :=
  twin_readField k h

@[gcongr] theorem twin_readTemp (k : FieldKind) (put : Word → Temps → Temps) (h : Twin m s t) :
    Twin m (readTemp k put s) (readTemp k put t) :=
  (twin_readField k h).store (fun u => setTemps (put u.val u.temps) u) rfl ⟨rfl, rfl⟩

@[gcongr] theorem twin_readSps (k : FieldKind) (put : Word → SpsRecord → SpsRecord) (h : Twin m s t) :
    Twin m (readSps k put s) (readSps k put t) :=
  (twin_readField k h).store (fun u => setSps (put u.val u.sps) u) rfl ⟨rfl, rfl⟩

@[gcongr] theorem twin_readVui (k : FieldKind) (put : Word → VuiRecord → VuiRecord) (h : Twin m s t) :
    Twin m (readVui k put s) (readVui k put t) :=
  (twin_readField k h).store (fun u => setVui (put u.val u.vui) u) rfl ⟨rfl, rfl⟩

@[gcongr] theorem twin_readBsr (k : FieldKind) (put : Word → BsrRecord → BsrRecord) (h : Twin m s t) :
    Twin m (readBsr k put s) (readBsr k put t) :=
  (twin_readField k h).store (fun u => setBsr (put u.val u.bsr) u) rfl ⟨rfl, rfl⟩

/-! ### The scaling-list skip and the long-term entries -/

theorem twin_skipCoefficient (k : Nat) (h : Twin m s t) : Twin m (skipCoefficient k s) (skipCoefficient k t) := by
  unfold skipCoefficient
  gcongr

@[gcongr] theorem twin_skipDc (sizeId : Nat) (h : Twin m s t) : Twin m (skipDc sizeId s) (skipDc sizeId t) :=
  ite_rel Iff.rfl (twin_skipField .ue h) h

theorem twin_skipOneMatrix (sizeId matrixId : Nat) (h : Twin m s t) :
    Twin m (skipOneMatrix sizeId matrixId s) (skipOneMatrix sizeId matrixId t) := by
  have flag := twin_readTemp .f (fun v r => { r with pm := isOne v })
    (twin_setSeq (.sls .matrix) (twin_noteTemps (fun r => { r with sizeId := sizeId, matrixId := matrixId }) h))
  refine ite_rel (by rw [flag.temps]) (repeatFor_pair (fun k _ _ => twin_skipCoefficient k) _ _ ?_)
    (twin_skipField .ue flag)
  exact twin_skipDc sizeId (twin_setSeq _ flag)

theorem twin_skipSizeClass (sizeId : Nat) (h : Twin m s t) : Twin m (skipSizeClass sizeId s) (skipSizeClass sizeId t) :=
  repeatFor_pair (fun k _ _ => twin_skipOneMatrix sizeId k) _ 0 h

@[gcongr] theorem twin_scalingListSkip (h : Twin m s t) : Twin m (scalingListSkip s) (scalingListSkip t) := by
  unfold scalingListSkip
  exact repeatFor_pair (fun k _ _ => twin_skipSizeClass k) 4 0 h

theorem twin_longTermEntry (i : Nat) (h : Twin m s t) : Twin m (longTermEntry i s) (longTermEntry i t) := by
  have index := twin_noteTemps (fun r => { r with i := i }) h
  refine twin_skipField .f (ite_rel (by rw [index.sps]) ?_ (twin_recordError .malformed index))
  rw [index.sps]
  exact twin_skipField _ index

theorem twin_longTermSkip (count first : Nat) (h : Twin m s t) :
    Twin m (longTermSkip count first s) (longTermSkip count first t) := by
  induction count generalizing first s t with
  | zero => exact h
  | succ count ih =>
    unfold longTermSkip
    exact ite_rel (by rw [h.failed_eq]) (twin_setVal 0 (twin_noteTemps _ h))
      (ih (first + 1) (twin_longTermEntry first h))

/-! ### The reference picture set routine -/

/-- Twins, with one entry. -/
structure TwinEntry (m : Memory) (p q : State × RpsEntry) : Prop where
  state : Twin m p.1 q.1
  entry : q.2 = p.2

theorem Twin.withEntry (h : Twin m s t) (e : RpsEntry) : TwinEntry m (s, e) (t, e) := ⟨h, rfl⟩

theorem twin_readDeltaIdx (idx num : Word) (h : Twin m s t) :
    Twin m (readDeltaIdx idx num s) (readDeltaIdx idx num t) := by
  unfold readDeltaIdx
  refine ite_rel Iff.rfl ?_ ?_ <;> gcongr

theorem twin_countDelta (j : Nat) {p q : State × RpsEntry} (h : TwinEntry m p q) :
    TwinEntry m (countDelta j p) (countDelta j q) := by
  have used := twin_readTemp .f (fun v r => { r with used := isOne v })
    (twin_noteTemps (fun r => { r with j := j, useDelta := false }) h.state)
  have both : Twin m (countDelta j p).1 (countDelta j q).1 :=
    ite_rel (by rw [used.temps]) used (twin_readTemp .f _ used)
  refine ⟨both, ?_⟩
  unfold countDelta at both ⊢
  simp only at both ⊢
  rw [both.temps, h.entry]

/-- The reference entry's count is no byte of the buffer (R165). -/
theorem twin_noteReferenceCount (h : Twin m s t) :
    Twin m (noteTemps (fun r => { r with nd := numDeltaPocsAt s r.refIdx }) s)
      (noteTemps (fun r => { r with nd := numDeltaPocsAt t r.refIdx }) t) :=
  h.store (fun u => noteTemps (fun r => { r with nd := numDeltaPocsAt u r.refIdx }) u) rfl ⟨rfl, rfl⟩

theorem twin_predictedCount (idx : Word) (e : RpsEntry) (h : Twin m s t) :
    TwinEntry m (predictedCount idx s e) (predictedCount idx t e) := by
  have skipped := twin_skipField .ue (twin_skipField .f (twin_setSeq (.rps .discardedDelta) h))
  have index := twin_noteTemps (fun r => { r with refIdx := idx - r.deltaIdx }) skipped
  have count := twin_noteReferenceCount index
  unfold predictedCount
  simp only
  rw [count.temps]
  exact repeatFor_pair twin_countDelta _ _ ⟨twin_setSeq _ count, rfl⟩

theorem twin_predictedEntry (idx num : Word) (e : RpsEntry) (h : Twin m s t) :
    TwinEntry m (predictedEntry idx num s e) (predictedEntry idx num t e) := by
  have ref := twin_setSeq (.rps .reference) (twin_readDeltaIdx idx num h)
  exact ite_rel (by rw [ref.temps]) ⟨twin_recordError .malformed ref, rfl⟩ (twin_predictedCount idx e ref)

/-- `readS0Pair` and `readS1Pair` as one definition: a raw value plus one and a flag, which `put` stores
(R169 to R171). -/
def readPairInto (put : RpsEntry → Word × Bool → RpsEntry) (i : Nat) (p : State × RpsEntry) : State × RpsEntry :=
  let t := readField .ue (noteTemps (fun r => { r with i := i }) p.1)
  let u := readField .f t
  (u, put p.2 (t.val + 1, isOne u.val))

theorem twin_readPairInto (put : RpsEntry → Word × Bool → RpsEntry) (i : Nat) {p q : State × RpsEntry}
    (h : TwinEntry m p q) : TwinEntry m (readPairInto put i p) (readPairInto put i q) := by
  have delta := twin_readField .ue (twin_noteTemps (fun r => { r with i := i }) h.state)
  have used := twin_readField .f delta
  refine ⟨used, ?_⟩
  simp only [readPairInto, delta.val, used.val, h.entry]

theorem twin_readS0Pair (i : Nat) {p q : State × RpsEntry} (h : TwinEntry m p q) :
    TwinEntry m (readS0Pair i p) (readS0Pair i q) :=
  twin_readPairInto (fun e d => { e with s0 := e.s0 ++ [d] }) i h

theorem twin_readS1Pair (i : Nat) {p q : State × RpsEntry} (h : TwinEntry m p q) :
    TwinEntry m (readS1Pair i p) (readS1Pair i q) :=
  twin_readPairInto (fun e d => { e with s1 := e.s1 ++ [d] }) i h

theorem twin_readPairs (e : RpsEntry) (h : Twin m s t) : TwinEntry m (readPairs s e) (readPairs t e) := by
  have negative := repeatFor_pair twin_readS0Pair e.numNegativePics.toNat 0
    ((twin_setSeq (.rps .negativeList) h).withEntry { e with numDeltaPocs := e.numNegativePics + e.numPositivePics })
  exact repeatFor_pair twin_readS1Pair _ _ ⟨twin_setSeq _ negative.state, negative.entry⟩

theorem twin_explicitEntry (e : RpsEntry) (h : Twin m s t) : TwinEntry m (explicitEntry s e) (explicitEntry t e) := by
  have neg := twin_readField .ue (twin_setSeq (.rps .counts) h)
  have pos := twin_setSeq (.rps .bound) (twin_readField .ue neg)
  unfold explicitEntry
  simp only
  rw [neg.val, pos.val]
  exact ite_rel Iff.rfl ⟨twin_recordError _ pos, rfl⟩ (twin_readPairs _ pos)

theorem twin_readPredictionFlag (idx : Word) (h : Twin m s t) :
    TwinEntry m (readPredictionFlag idx s) (readPredictionFlag idx t) := by
  have start := twin_setSeq (.rps .predictionFlag) h
  have flag := twin_readField .f start
  exact ite_rel Iff.rfl ⟨start, rfl⟩ ⟨flag, by rw [flag.val]⟩

theorem twin_shortTermRps (idx num : Word) (h : Twin m s t) :
    TwinEntry m (shortTermRps idx num s) (shortTermRps idx num t) := by
  have flag := twin_readPredictionFlag idx h
  unfold shortTermRps
  simp only
  rw [flag.entry]
  exact ite_rel Iff.rfl (twin_predictedEntry idx num _ flag.state) (twin_explicitEntry _ flag.state)

/-! ### The VUI routine -/

theorem twin_applySarLookup (h : Twin m s t) : Twin m (applySarLookup s) (applySarLookup t) := by
  unfold applySarLookup
  rw [h.params, h.vui]
  cases lookupSar s.params s.vui.aspectRatioIdc with
  | some wh => exact h.store (fun u => setVui _ u) rfl ⟨rfl, rfl⟩
  | none => exact twin_recordError .unknownAspectRatioIDC h

@[gcongr] theorem twin_readSar (h : Twin m s t) : Twin m (readSar s) (readSar t) := by
  refine ite_rel (by rw [h.vui, h.params]) ?_ (twin_applySarLookup h)
  gcongr

/-- Every VUI group opens with a state of `SEQ` and a flag, and its other fields stand under that flag. -/
theorem twin_vuiGroup {a b : State} (q : Seq) (put : Word → VuiRecord → VuiRecord) (flag : VuiRecord → Bool)
    (h : Twin m s t) (hab : Twin m a b) :
    Twin m (if flag (readVui .f put (setSeq q s)).vui then a else readVui .f put (setSeq q s))
      (if flag (readVui .f put (setSeq q t)).vui then b else readVui .f put (setSeq q t)) := by
  have opened := twin_readVui .f put (twin_setSeq q h)
  exact ite_rel (by rw [opened.vui]) hab opened

@[gcongr] theorem twin_vuiAspectRatio (h : Twin m s t) : Twin m (vuiAspectRatio s) (vuiAspectRatio t) := by
  unfold vuiAspectRatio
  refine twin_vuiGroup _ _ (·.aspectRatioInfoPresentFlag) h ?_
  gcongr

@[gcongr] theorem twin_vuiOverscan (h : Twin m s t) : Twin m (vuiOverscan s) (vuiOverscan t) := by
  unfold vuiOverscan
  refine twin_vuiGroup _ _ (·.overscanInfoPresentFlag) h ?_
  gcongr

@[gcongr] theorem twin_vuiColourDescription (h : Twin m s t) :
    Twin m (vuiColourDescription s) (vuiColourDescription t) := by
  unfold vuiColourDescription
  gcongr

@[gcongr] theorem twin_vuiSignalFields (h : Twin m s t) : Twin m (vuiSignalFields s) (vuiSignalFields t) := by
  have fields := twin_readVui .f (fun v r => { r with colourDescriptionPresentFlag := isOne v })
    (twin_readVui .f (fun v r => { r with videoFullRangeFlag := isOne v })
      (twin_readVui (.u 3) (fun v r => { r with videoFormat := v.setWidth 3 }) h))
  exact ite_rel (by rw [fields.vui]) (twin_vuiColourDescription fields) fields

@[gcongr] theorem twin_vuiVideoSignal (h : Twin m s t) : Twin m (vuiVideoSignal s) (vuiVideoSignal t) := by
  unfold vuiVideoSignal
  refine twin_vuiGroup _ _ (·.videoSignalTypePresentFlag) h ?_
  gcongr

@[gcongr] theorem twin_vuiChromaLocation (h : Twin m s t) : Twin m (vuiChromaLocation s) (vuiChromaLocation t) := by
  unfold vuiChromaLocation
  refine twin_vuiGroup _ _ (·.chromaLocInfoPresentFlag) h ?_
  gcongr

@[gcongr] theorem twin_vuiThreeFlags (h : Twin m s t) : Twin m (vuiThreeFlags s) (vuiThreeFlags t) := by
  unfold vuiThreeFlags
  gcongr

@[gcongr] theorem twin_vuiDisplayWindow (h : Twin m s t) : Twin m (vuiDisplayWindow s) (vuiDisplayWindow t) := by
  unfold vuiDisplayWindow
  refine twin_vuiGroup _ _ (·.defaultDisplayWindowFlag) h ?_
  gcongr

@[gcongr] theorem twin_vuiPocProportional (h : Twin m s t) : Twin m (vuiPocProportional s) (vuiPocProportional t) := by
  unfold vuiPocProportional
  refine twin_vuiGroup _ _ (·.pocProportionalToTimingFlag) h ?_
  gcongr

@[gcongr] theorem twin_vuiHrdFlag (h : Twin m s t) : Twin m (vuiHrdFlag s) (vuiHrdFlag t) := by
  unfold vuiHrdFlag
  gcongr

@[gcongr] theorem twin_vuiTiming (h : Twin m s t) : Twin m (vuiTiming s) (vuiTiming t) := by
  unfold vuiTiming
  refine twin_vuiGroup _ _ (·.timingInfoPresentFlag) h ?_
  gcongr

@[gcongr] theorem twin_vuiRestrictions (h : Twin m s t) : Twin m (vuiRestrictions s) (vuiRestrictions t) := by
  unfold vuiRestrictions
  gcongr

@[gcongr] theorem twin_vuiRestrictionFlag (h : Twin m s t) : Twin m (vuiRestrictionFlag s) (vuiRestrictionFlag t) := by
  unfold vuiRestrictionFlag
  refine twin_vuiGroup _ _ (·.bitstreamRestrictionFlag) h ?_
  gcongr

theorem twin_vuiGroups (h : Twin m s t) : Twin m (vuiGroups s) (vuiGroups t) := by
  unfold vuiGroups
  gcongr

@[gcongr] theorem twin_vuiParameters (h : Twin m s t) : Twin m (vuiParameters s) (vuiParameters t) := by
  have groups := twin_vuiGroups h
  unfold vuiParameters
  exact ite_rel (by rw [hrdExit, groups.vui, hrdExit]) (by gcongr) (by gcongr)

/-! ### The steps of the walk -/

theorem twin_readNalHeader (h : Twin m s t) : Twin m (readNalHeader s) (readNalHeader t) := by
  have header := twin_readTemp (.u 16) (fun v r => { r with hdr := v.setWidth 16 }) (twin_setSeq .q1 h)
  exact header.store (fun u => setSps { u.sps with nalHdr := u.temps.hdr } u) rfl ⟨rfl, rfl⟩

theorem twin_seqQ2 (h : Twin m s t) : Twin m (seqQ2 s) (seqQ2 t) := by
  unfold seqQ2
  gcongr

theorem twin_readPtl (h : Twin m s t) : Twin m (readPtl s) (readPtl t) := by
  unfold readPtl
  gcongr

/-- A step whose last fields stand under a condition on the record. -/
theorem twin_spsBranch {a b : State} (c : SpsRecord → Prop) [DecidablePred c] (h : Twin m s t) (hab : Twin m a b) :
    Twin m (if c s.sps then a else s) (if c t.sps then b else t) := ite_rel (by rw [h.sps]) hab h

@[gcongr] theorem twin_seqQ4 (h : Twin m s t) : Twin m (seqQ4 s) (seqQ4 t) := by
  unfold seqQ4
  refine twin_spsBranch (·.chromaFormatIdc = 3) ?_ ?_ <;> gcongr

@[gcongr] theorem twin_readConfWindow (h : Twin m s t) : Twin m (readConfWindow s) (readConfWindow t) := by
  unfold readConfWindow
  gcongr

@[gcongr] theorem twin_seqQ5 (h : Twin m s t) : Twin m (seqQ5 s) (seqQ5 t) := by
  unfold seqQ5
  refine twin_spsBranch (·.conformanceWindowFlag) ?_ ?_ <;> gcongr

@[gcongr] theorem twin_seqQ6 (h : Twin m s t) : Twin m (seqQ6 s) (seqQ6 t) := by
  unfold seqQ6
  gcongr

theorem twin_readSloiEntry (i : Nat) (h : Twin m s t) : Twin m (readSloiEntry i s) (readSloiEntry i t) := by
  have f0 := twin_readField .ue (twin_noteTemps (fun r => { r with i := i }) h)
  have f1 := twin_readField .ue f0
  have f2 := twin_readField .ue f1
  unfold readSloiEntry
  simp only
  rw [f0.val, f1.val, f2.val]
  exact twin_pushSloi _ f2

@[gcongr] theorem twin_seqQ7 (h : Twin m s t) : Twin m (seqQ7 s) (seqQ7 t) := by
  have flag := twin_readSps .f (fun v r => { r with sloiPresentFlag := isOne v }) (twin_setSeq .q7 h)
  unfold seqQ7
  simp only
  rw [flag.sps]
  exact repeatFor_pair (fun i _ _ => twin_readSloiEntry i) _ _ flag

@[gcongr] theorem twin_seqQ8 (h : Twin m s t) : Twin m (seqQ8 s) (seqQ8 t) := by
  unfold seqQ8
  gcongr

@[gcongr] theorem twin_readScalingData (h : Twin m s t) : Twin m (readScalingData s) (readScalingData t) := by
  unfold readScalingData
  refine twin_spsBranch (·.scalingListDataPresentFlag) ?_ ?_ <;> gcongr

@[gcongr] theorem twin_seqQ9 (h : Twin m s t) : Twin m (seqQ9 s) (seqQ9 t) := by
  unfold seqQ9
  refine twin_spsBranch (·.scalingListEnabledFlag) ?_ ?_ <;> gcongr

@[gcongr] theorem twin_readPcm (h : Twin m s t) : Twin m (readPcm s) (readPcm t) := by
  unfold readPcm
  gcongr

@[gcongr] theorem twin_seqQ10 (h : Twin m s t) : Twin m (seqQ10 s) (seqQ10 t) := by
  unfold seqQ10
  refine twin_spsBranch (·.pcmEnabledFlag) ?_ ?_ <;> gcongr

@[gcongr] theorem twin_seqQ4toQ10 (h : Twin m s t) : Twin m (seqQ4toQ10 s) (seqQ4toQ10 t) := by
  unfold seqQ4toQ10
  gcongr

theorem twin_appendRpsEntry (idx : Word) (h : Twin m s t) : Twin m (appendRpsEntry idx s) (appendRpsEntry idx t) := by
  have entry := twin_shortTermRps idx s.sps.numShortTermRefPicSets (twin_noteTemps (fun r => { r with idx := idx }) h)
  unfold appendRpsEntry
  simp only
  rw [h.sps, entry.entry]
  exact twin_setSeq .q11 (twin_pushRps _ entry.state)

@[gcongr] theorem twin_readLongTermEntries (h : Twin m s t) :
    Twin m (readLongTermEntries s) (readLongTermEntries t) := by
  have count := twin_readTemp .ue (fun v r => { r with cnt := v }) h
  unfold readLongTermEntries
  simp only
  rw [count.temps]
  exact twin_longTermSkip _ 0 count

@[gcongr] theorem twin_seqQ12 (h : Twin m s t) : Twin m (seqQ12 s) (seqQ12 t) := by
  unfold seqQ12
  refine twin_spsBranch (·.longTermRefPicsPresentFlag) ?_ ?_ <;> gcongr

@[gcongr] theorem twin_seqQ13 (h : Twin m s t) : Twin m (seqQ13 s) (seqQ13 t) := by
  unfold seqQ13
  refine twin_spsBranch (·.vuiParametersPresentFlag) ?_ ?_ <;> gcongr

@[gcongr] theorem twin_reportLatch (h : Twin m s t) : Twin m (reportLatch s) (reportLatch t) :=
  h.store reportLatch rfl ⟨rfl, rfl⟩

@[gcongr] theorem twin_seqQ14 (h : Twin m s t) : Twin m (seqQ14 s) (seqQ14 t) := by
  unfold seqQ14
  gcongr

theorem twin_seqQ12toQ14 (h : Twin m s t) : Twin m (seqQ12toQ14 s) (seqQ12toQ14 t) := by
  unfold seqQ12toQ14
  gcongr

/-! ### The walk -/

/-- The walk goes on over both buffers, or stops over both. -/
inductive TwinWalk (m : Memory) : Walk → Walk → Prop
  | go {s t : State} (h : Twin m s t) : TwinWalk m (.go s) (.go t)
  | stop {s t : State} (h : Twin m s t) : TwinWalk m (.stop s) (.stop t)

theorem TwinWalk.state {v w : Walk} (h : TwinWalk m v w) : Twin m (walkState v) (walkState w) := by
  cases h <;> assumption

theorem TwinWalk.andThen {v w : Walk} {f : State → Walk} (h : TwinWalk m v w)
    (hf : ∀ {s t}, Twin m s t → TwinWalk m (f s) (f t)) : TwinWalk m (andThen v f) (andThen w f) := by
  cases h with
  | go h => exact hf h
  | stop h => exact .stop h

theorem twin_seqQ1 (h : Twin m s t) : TwinWalk m (seqQ1 s) (seqQ1 t) := by
  have header := twin_readNalHeader h
  refine ite_rel (by rw [isSpsUnit, header.params, header.temps, isSpsUnit]) (.go ?_) (.stop ?_) <;> gcongr

theorem twin_seqQ3 (h : Twin m s t) : TwinWalk m (seqQ3 s) (seqQ3 t) := by
  have ptl := twin_readPtl h
  unfold seqQ3
  exact ite_rel (by rw [ptl.sps]) (.stop (twin_setResult .ok ptl)) (.go ptl)

theorem twin_rpsLoop (count : Nat) (idx : Word) (h : Twin m s t) :
    TwinWalk m (rpsLoop count idx s) (rpsLoop count idx t) := by
  induction count generalizing idx s t with
  | zero => exact .go h
  | succ count ih =>
    have appended := twin_appendRpsEntry idx h
    exact ite_rel (by rw [appended.failed_eq]) (.stop (twin_reportLatch appended)) (ih (idx + 1) appended)

theorem twin_seqQ11 (h : Twin m s t) : TwinWalk m (seqQ11 s) (seqQ11 t) := by
  have count := twin_readSps .ue (fun v r => { r with numShortTermRefPicSets := v }) (twin_setSeq .q11 h)
  unfold seqQ11
  simp only
  rw [count.sps]
  exact twin_rpsLoop _ 0 count

theorem twin_walkSps (h : Twin m s t) : TwinWalk m (walkSps s) (walkSps t) :=
  (twin_seqQ1 h).andThen fun h => (twin_seqQ3 (twin_seqQ2 h)).andThen fun h =>
    (twin_seqQ11 (twin_seqQ4toQ10 h)).andThen fun h => .stop (twin_seqQ12toQ14 h)

theorem twin_startDsps (h : Twin m s t) : Twin m (startDsps s) (startDsps t) := h.store startDsps rfl ⟨rfl, rfl⟩

theorem twin_finishDsps (h : Twin m s t) : Twin m (finishDsps s) (finishDsps t) := h.store finishDsps rfl ⟨rfl, rfl⟩

theorem twin_decodeSps (h : Twin m s t) : Twin m (decodeSps s) (decodeSps t) :=
  twin_finishDsps (twin_walkSps (twin_startDsps h)).state

/-- Every command that completes over one buffer completes over the other. -/
theorem twin_exec {i : Instr} {s' : State} (h : Twin m s t) (hs : exec i s = .next s') :
    ∃ t', exec i t = .next t' ∧ Twin m s' t' := by
  cases i with
  | rdb n =>
    simp only [exec, execRdb] at hs ⊢
    split at hs <;> cases hs
    exact ⟨_, if_pos ‹_›, twin_readBits n h⟩
  | rdf => cases hs; exact ⟨_, rfl, twin_readBits 1 h⟩
  | rdue => cases hs; exact ⟨_, rfl, twin_readUe h⟩
  | stat => cases hs; exact ⟨_, rfl, h.store readStatus rfl ⟨rfl, rfl⟩⟩
  | serr c =>
    simp only [exec, execSerr] at hs ⊢
    split at hs <;> cases hs
    exact ⟨_, if_pos ‹_›, twin_recordError c h⟩
  | init => cases hs; exact ⟨_, rfl, h.store recreateCursor rfl ⟨rfl, rfl⟩⟩
  | dsps => cases hs; exact ⟨_, rfl, twin_decodeSps h⟩

end

/-- Settles O33: the state and the state over the other memory are twins, and every command keeps twins. -/
theorem commandsReadInsideTheBuffer : Obligations.CommandsReadInsideTheBuffer := by
  intro i s t m hm h
  obtain ⟨t', ht', twin⟩ := twin_exec (t := { s with buf := m }) ⟨rfl, hm⟩ h
  rw [ht', twin.frame]

end Sys2Proof.Machine

namespace Sys2Proof.Machine

/-! ### The value of a fixed-width read -/

/-- A fixed-width read that has its bits (R92). -/
theorem exec_rdb_ok {n : Nat} {s : State} (h1 : 1 ≤ n) (h64 : n ≤ 64) (he : s.err = .ok)
    (hn : s.pos + n ≤ 8 * s.len) :
    exec (.rdb n) s =
      .next { s with val := BitVec.ofNat 64 (streamBits s.buf s.pos n), pos := s.pos + n } := by
  have hr := readBits_ok he (show n ≤ streamEnd s - s.pos by unfold streamEnd; omega)
  rw [← hr]
  exact if_pos (decide_eq_true ⟨h1, h64⟩)

/-- `VAL` holds every bit of a read of at most 64 (R15). -/
theorem toNat_ofNat_streamBits (m : Memory) (p : Nat) {n : Nat} (h : n ≤ 64) :
    (BitVec.ofNat 64 (streamBits m p n)).toNat = streamBits m p n := by
  rw [BitVec.toNat_ofNat]
  exact Nat.mod_eq_of_lt ((streamBits_lt m p n).trans_le (Nat.pow_le_pow_right (by decide) h))

/-- Settles O12: the bits of `VAL` are those of the number read, the first stream bit the most significant one. -/
theorem rdbValueBits : Obligations.RdbValueBits := by
  intro n s t h1 h64 he hn h
  rw [exec_rdb_ok h1 h64 he hn] at h
  cases h
  simp only [BitVec.getLsbD, toNat_ofNat_streamBits _ _ h64]
  refine ⟨fun i hi => testBit_streamBits s.buf s.pos hi, fun j hj => ?_⟩
  exact Nat.testBit_eq_false_of_lt ((streamBits_lt _ _ n).trans_le (Nat.pow_le_pow_right (by decide) hj))

/-- Settles O13: all three reads have their bits, and the number read splits after its first `n` bits. -/
theorem consecutiveReadsAssociate : Obligations.ConsecutiveReadsAssociate := by
  intro n k s hn hk h64 he hp
  refine ⟨_, _, _, exec_rdb_ok hn (by omega) he (by omega), exec_rdb_ok hk (by omega) he (by simp only; omega),
    exec_rdb_ok (by omega) h64 he hp, ?_, Nat.add_assoc .., rfl⟩
  dsimp only
  rw [toNat_ofNat_streamBits _ _ h64, toNat_ofNat_streamBits _ _ (show n ≤ 64 by omega),
    toNat_ofNat_streamBits _ _ (show k ≤ 64 by omega), streamBits_add]

end Sys2Proof.Machine

namespace Sys2Proof.Machine

open Laws.FormatC (opcode)

/-! ### The fields of a command word -/

/-- A command word is its three fields side by side (R60). -/
theorem toNat_eq_fields (w : CmdWord) :
    w.toNat = 4096 * opField w + 128 * zField w + argField w ∧ zField w < 32 ∧ argField w < 128 := by
  have hw := w.isLt
  simp only [opField, zField, argField, BitVec.extractLsb'_toNat, Nat.shiftRight_eq_div_pow]
  omega

/-- What a command's word holds in `arg` (R62). -/
def operand : Instr → Nat
  | .rdb n => n
  | .serr c => (errCode c).toNat
  | _ => 0

/-- A command's word is of format C (R60, R61). -/
theorem encode_eq (i : Instr) : encode i = BitVec.ofNat 16 (4096 * opcode i + operand i) := by
  cases i <;> rfl

theorem errCode_le_five (c : ErrCode) : (errCode c).toNat ≤ 5 := by cases c <;> decide

/-- Only `ok` has number 0 (R200). -/
theorem one_le_errCode_iff (c : ErrCode) : 1 ≤ (errCode c).toNat ↔ c ≠ .ok := by cases c <;> decide

theorem wellFormed_rdb_iff (n : Nat) : wellFormed (.rdb n) = true ↔ 1 ≤ n ∧ n ≤ 64 := decide_eq_true_iff

theorem wellFormed_serr_iff (c : ErrCode) : wellFormed (.serr c) = true ↔ c ≠ .ok := decide_eq_true_iff

/-- A well-formed command's operand fits into `arg` (R62). -/
theorem operand_lt {i : Instr} (h : wellFormed i = true) : operand i < 128 := by
  cases i with
  | rdb n => exact Nat.lt_of_le_of_lt ((wellFormed_rdb_iff n).1 h).2 (by decide)
  | serr c => exact Nat.lt_of_le_of_lt (errCode_le_five c) (by decide)
  | _ => exact Nat.two_pow_pos 7

/-- The word of a well-formed command is the one with its opcode, a zero `z` field and its operand (R60 to R62). -/
theorem encode_eq_iff {i : Instr} (h : wellFormed i = true) (w : CmdWord) :
    encode i = w ↔ zField w = 0 ∧ opField w = opcode i ∧ argField w = operand i := by
  have hop : opcode i ≤ 8 := by cases i <;> simp [opcode]
  have harg := operand_lt h
  obtain ⟨hw, hz, ha⟩ := toNat_eq_fields w
  rw [encode_eq, ← BitVec.toNat_inj, BitVec.toNat_ofNat]
  omega

/-! ### The decoder and the encoder -/

theorem withoutArgument_ok_iff (arg : Nat) (i j : Instr) :
    withoutArgument arg i = .ok j ↔ arg = 0 ∧ i = j := by
  unfold withoutArgument; split <;> simp_all

theorem decodeRdb_ok_iff (arg : Nat) (i : Instr) :
    decodeRdb arg = .ok i ↔ (1 ≤ arg ∧ arg ≤ 64) ∧ .rdb arg = i := by
  unfold decodeRdb Config.maxRdb; split <;> simp_all

/-- `SERR`'s operand names the error kind with that number, if it is one of 1 to 5 (R62). -/
theorem serrOperand_eq_some_iff (arg : Nat) (c : ErrCode) :
    serrOperand arg = some c ↔ c ≠ .ok ∧ arg = (errCode c).toNat := by
  constructor
  · intro h
    unfold serrOperand at h
    split at h <;> cases h <;> exact ⟨nofun, rfl⟩
  · rintro ⟨hc, rfl⟩
    cases c with
    | ok => exact absurd rfl hc
    | _ => rfl

theorem decodeSerr_ok_iff (arg : Nat) (i : Instr) :
    decodeSerr arg = .ok i ↔ ∃ c, (c ≠ .ok ∧ arg = (errCode c).toNat) ∧ .serr c = i := by
  simp only [← serrOperand_eq_some_iff]
  unfold decodeSerr
  split <;> simp_all

/-- What the decoder accepts is well formed, and its fields are the word's (R63). -/
theorem fields_of_decode {w : CmdWord} {i : Instr} (h : decode w = .ok i) :
    wellFormed i = true ∧ zField w = 0 ∧ opField w = opcode i ∧ argField w = operand i := by
  unfold decode at h
  split at h
  · cases h
  have hz : zField w = 0 := not_not.1 ‹_›
  split at h
  case h_1 hop =>
    obtain ⟨harg, rfl⟩ := (decodeRdb_ok_iff _ _).1 h
    exact ⟨(wellFormed_rdb_iff _).2 harg, hz, hop, rfl⟩
  case h_5 hop =>
    obtain ⟨c, ⟨hc, harg⟩, rfl⟩ := (decodeSerr_ok_iff _ _).1 h
    exact ⟨(wellFormed_serr_iff c).2 hc, hz, hop, harg⟩
  case h_8 => cases h
  all_goals
    rename_i hop
    obtain ⟨harg, rfl⟩ := (withoutArgument_ok_iff _ _ _).1 h
    exact ⟨rfl, hz, hop, harg⟩

/-- A word with the fields of a well-formed command is decoded as that command (R63). -/
theorem decode_of_fields {w : CmdWord} {i : Instr} (h : wellFormed i = true) (hz : zField w = 0)
    (hop : opField w = opcode i) (harg : argField w = operand i) : decode w = .ok i := by
  rw [decode, if_neg (not_not.2 hz), hop, harg]
  cases i with
  | rdb n => exact (decodeRdb_ok_iff _ _).2 ⟨(wellFormed_rdb_iff n).1 h, rfl⟩
  | serr c => exact (decodeSerr_ok_iff _ _).2 ⟨c, ⟨(wellFormed_serr_iff c).1 h, rfl⟩, rfl⟩
  | _ => exact (withoutArgument_ok_iff _ _ _).2 ⟨rfl, rfl⟩

/-- The decoder accepts a word as `i` exactly when it is the word of `i`, `i` being well formed. -/
theorem decode_ok_iff_encode (w : CmdWord) (i : Instr) :
    decode w = .ok i ↔ wellFormed i = true ∧ encode i = w := by
  constructor
  · intro h
    obtain ⟨hi, fields⟩ := fields_of_decode h
    exact ⟨hi, (encode_eq_iff hi w).2 fields⟩
  · rintro ⟨hi, hw⟩
    obtain ⟨hz, hop, harg⟩ := (encode_eq_iff hi w).1 hw
    exact decode_of_fields hi hz hop harg

/-- Settles O1: `encode i` is the word of `i`. -/
theorem decodeInvertsEncode : Obligations.DecodeInvertsEncode :=
  fun i h => (decode_ok_iff_encode (encode i) i).2 ⟨h, rfl⟩

/-- Settles O2: the same equivalence, read from left to right. -/
theorem encodeInvertsDecode : Obligations.EncodeInvertsDecode :=
  fun w i => (decode_ok_iff_encode w i).1

/-! ### Masks -/

/-- Masking with `j` ones from bit `k` on leaves those bits of a number, where they stand. -/
theorem and_mask (x k j : Nat) : x &&& (2 ^ j - 1) <<< k = (x / 2 ^ k % 2 ^ j) * 2 ^ k := by
  rw [← Nat.shiftLeft_eq, ← Nat.and_two_pow_sub_one_eq_mod, ← Nat.shiftRight_eq_div_pow]
  refine Nat.eq_of_testBit_eq fun i => ?_
  by_cases h : k ≤ i <;> simp [h, Bool.and_comm]

section
variable {m : CmdWord} {k j : Nat} (hm : m.toNat = (2 ^ j - 1) <<< k) (w : CmdWord)
include hm

theorem toNat_and_mask : (w &&& m).toNat = (w.toNat / 2 ^ k % 2 ^ j) * 2 ^ k := by
  rw [BitVec.toNat_and, hm, and_mask]

/-- R63's test of a word against a mask and a match. -/
theorem and_mask_eq_iff {v : CmdWord} {n : Nat} (hv : v.toNat = n) :
    w &&& m = v ↔ (w.toNat / 2 ^ k % 2 ^ j) * 2 ^ k = n := by
  rw [← BitVec.toNat_inj, toNat_and_mask hm, hv]

end

theorem toNat_encode_rdb {n : Nat} (h : n ≤ 64) : (encode (.rdb n)).toNat = 0x1000 + n := by
  rw [encode, BitVec.toNat_ofNat]; omega

theorem toNat_encode_serr (c : ErrCode) : (encode (.serr c)).toNat = 0x5000 + (errCode c).toNat := by
  have := errCode_le_five c
  rw [encode, BitVec.toNat_ofNat]; omega

/-- `z` is what the mask `0x0F80` leaves (R60). -/
theorem decode_of_mask_z {w : CmdWord} (h : w &&& 0x0F80 ≠ 0) : decode w = .error .reservedBits := by
  have mask := and_mask_eq_iff (m := 0x0F80) (k := 7) (j := 5) (v := 0) (n := 0) rfl w rfl
  have hz : zField w ≠ 0 := by
    rw [Ne, mask] at h
    simp only [zField, BitVec.extractLsb'_toNat, Nat.shiftRight_eq_div_pow]
    omega
  exact if_pos hz

/-- R63's row of `RDB`. -/
theorem decode_rdb_iff (w : CmdWord) (n : Nat) : decode w = .ok (.rdb n) ↔
    w &&& 0xFF80 = 0x1000 ∧ n = (w &&& 0x7F).toNat ∧ 1 ≤ n ∧ n ≤ 64 := by
  have mask := and_mask_eq_iff (m := 0xFF80) (k := 7) (j := 9) (v := 0x1000) (n := 0x1000) rfl w rfl
  have arg := toNat_and_mask (m := 0x7F) (k := 0) (j := 7) rfl w
  have hw := w.isLt
  rw [decode_ok_iff_encode, wellFormed_rdb_iff, mask, arg]
  refine and_comm.trans ((and_congr_left fun hn => ?_).trans and_assoc)
  rw [← BitVec.toNat_inj, toNat_encode_rdb hn.2]
  omega

/-- R63's row of `SERR`. -/
theorem decode_serr_iff (w : CmdWord) (c : ErrCode) : decode w = .ok (.serr c) ↔
    w &&& 0xFFF8 = 0x5000 ∧ (errCode c).toNat = (w &&& 0x7).toNat ∧
      1 ≤ (w &&& 0x7).toNat ∧ (w &&& 0x7).toNat ≤ 5 := by
  have mask := and_mask_eq_iff (m := 0xFFF8) (k := 3) (j := 13) (v := 0x5000) (n := 0x5000) rfl w rfl
  have arg := toNat_and_mask (m := 0x7) (k := 0) (j := 3) rfl w
  have hw := w.isLt
  have hc := errCode_le_five c
  rw [decode_ok_iff_encode, wellFormed_serr_iff, ← one_le_errCode_iff, mask, arg, ← BitVec.toNat_inj,
    toNat_encode_serr]
  omega

/-- R63's other rows: the mask `0xFFFF` leaves the word as it is. -/
theorem decode_ok_iff_full_mask {i : Instr} (h : wellFormed i = true) (w : CmdWord) :
    decode w = .ok i ↔ w &&& 0xFFFF = encode i := by
  rw [decode_ok_iff_encode, and_iff_right h, eq_comm, show w &&& 0xFFFF = w from BitVec.and_allOnes]

/-- Settles O3, row by row; each row is the equivalence of `decode` and `encode` with the word's bits masked. -/
theorem decodeFollowsTheTable : Obligations.DecodeFollowsTheTable := fun w =>
  ⟨decode_of_mask_z, decode_rdb_iff w, decode_ok_iff_full_mask rfl w, decode_ok_iff_full_mask rfl w,
    decode_ok_iff_full_mask rfl w, decode_serr_iff w, decode_ok_iff_full_mask rfl w, decode_ok_iff_full_mask rfl w⟩

/-- Settles O4, by evaluating the decoder. -/
theorem writtenOutWordsDecode : Obligations.WrittenOutWordsDecode := by
  unfold Obligations.WrittenOutWordsDecode
  decide

/-! ### Commands that are refused -/

/-- With a command word as the host's next action a step is that command (R91, R238). -/
theorem step_command {s : State} {w : CmdWord} {rest : List HostAction} (h : s.inputs = .command w :: rest) :
    step s = runCommand w { s with inputs := rest } := by
  unfold step takeAction
  rw [h]
  rfl

theorem runCommand_of_illegal {w : CmdWord} {why : IllegalWord} (h : decode w = .error why) (s : State) :
    runCommand w s = .refused (.illegalCommand w (illegalResponse s)) := by
  simp only [runCommand, h]

/-- Settles O6: taking the word off the pending actions changes neither `ERR` nor `VAL`. -/
theorem illegalWordIsRefused : Obligations.IllegalWordIsRefused := by
  intro s w why rest hin h
  rw [step_command hin, runCommand_of_illegal h]
  rfl

/-- Every well-formed command completes, in every state. -/
theorem exec_of_wellFormed {i : Instr} (h : wellFormed i = true) (s : State) : ∃ t, exec i s = .next t := by
  cases i with
  | rdb n => exact ⟨_, if_pos h⟩
  | serr c => exact ⟨_, if_pos h⟩
  | _ => exact ⟨_, rfl⟩

theorem exec_of_illFormed {i : Instr} (h : wellFormed i = false) (s : State) :
    exec i s = .refused (.illegalOperand (illegalResponse s)) := by
  cases i with
  | rdb n => exact if_neg (by simp [h])
  | serr c => exact if_neg (by simp [h])
  | _ => cases h

/-- Settles O18: an ill-formed term is refused, and every other command completes. -/
theorem illFormedTermIsRefused : Obligations.IllFormedTermIsRefused := by
  refine fun i s => ⟨fun h => ⟨_, exec_of_illFormed h s⟩, fun ⟨r, hr⟩ => ?_⟩
  by_contra h
  obtain ⟨t, ht⟩ := exec_of_wellFormed (Bool.eq_true_of_not_eq_false h) s
  rw [ht] at hr
  cases hr

/-! ### An Exp-Golomb codeword -/

/-- The scan from the cursor meets `lz` zeros and a one, if they are there and `lz` is at most 32 (R111, R113). -/
theorem leadingZeros_of_codeword {lz : Nat} {s : State} (hlz : lz ≤ 32)
    (hz : ∀ i < lz, streamBit s.buf (s.pos + i) = false) (h1 : streamBit s.buf (s.pos + lz) = true)
    (hend : s.pos + lz < streamEnd s) : leadingZeros s = .terminated lz (s.pos + lz + 1) := by
  have bound : lz < Config.maxLz + 1 := Nat.lt_succ_of_le hlz
  rw [leadingZeros, scanZeros_eq_terminated bound hend hz h1, Nat.zero_add]

/-- The variable-length read of a codeword whose suffix is in the buffer (R71, R111). -/
theorem readUe_of_terminated {lz p : Nat} {s : State} (he : s.err = .ok) (h : leadingZeros s = .terminated lz p)
    (hend : p + lz ≤ streamEnd s) :
    readUe s = { s with val := BitVec.ofNat 64 (ueValue s.buf p lz), pos := p + lz } := by
  have suffix : tooFewBits s p lz = false := decide_eq_false (by omega)
  rw [readUe, (not_failed_iff s).2 he]
  simp only [h, suffix]
  rfl

/-- Settles O20: the scan finds the terminator, and the suffix is in the buffer. -/
theorem rdueDecodesACodeword : Obligations.RdueDecodesACodeword := by
  intro lz s he hlz hz h1 hend
  have scan := leadingZeros_of_codeword hlz hz h1 (show s.pos + lz < 8 * s.len by omega)
  have read := readUe_of_terminated he scan (show s.pos + lz + 1 + lz ≤ 8 * s.len by omega)
  rw [show s.pos + lz + 1 + lz = s.pos + 2 * lz + 1 by omega] at read
  exact congrArg Host.Outcome.next read

end Sys2Proof.Machine

namespace Sys2Proof.Machine

/-! ### One command a step -/

theorem runCommand_of_decode {w : CmdWord} {i : Instr} (h : decode w = .ok i) (s : State) :
    runCommand w s = exec i s := by
  simp only [runCommand, h]

/-- Settles O5: the word is taken off the pending actions, and it decodes. -/
theorem stepRunsDecodedCommand : Obligations.StepRunsDecodedCommand := by
  intro s w i rest hin h
  rw [step_command hin, runCommand_of_decode h]

/-- With a LOAD as the host's next action a step is that LOAD (R99, R239). -/
theorem step_load {s : State} {bytes : List Byte} {rest : List HostAction} (h : s.inputs = .load bytes :: rest) :
    step s = .next (loadBuffer bytes { s with inputs := rest }) := by
  unfold step takeAction
  rw [h]
  rfl

/-- LOAD's memory holds byte `a` at address `a` (R99). -/
theorem memRead_loadBuffer {bytes : List Byte} {a : Nat} (h : a < bytes.length) (s : State) :
    memRead (loadBuffer bytes s).buf a = bytes[a] := by
  have byte := memRead_bufferFrom bytes 0 a
  rwa [Nat.zero_add, List.getD_eq_getElem _ _ h] at byte

/-- Settles O8: the new buffer holds the bytes, and all else is what `loadBuffer` writes. -/
theorem loadHandsOverABuffer : Obligations.LoadHandsOverABuffer := fun _ _ _ hin =>
  ⟨_, step_load hin, fun _ h => memRead_loadBuffer h _, rfl, rfl, rfl, rfl, rfl⟩

/-! ### The meanings of the cursor commands -/

theorem exec_rdb {n : Nat} (h1 : 1 ≤ n) (h64 : n ≤ 64) (s : State) : exec (.rdb n) s = .next (readField (.u n) s) :=
  if_pos ((wellFormed_rdb_iff n).2 ⟨h1, h64⟩)

theorem exec_serr {c : ErrCode} (hc : c ≠ .ok) (s : State) : exec (.serr c) s = .next (recordError c s) :=
  if_pos ((wellFormed_serr_iff c).2 hc)

/-- The three outcomes of a fixed-width read (R90, R92, R93). -/
theorem readBits_eq (n : Nat) (s : State) : readBits n s =
    if s.err ≠ .ok then { s with val := 0 }
    else if streamEnd s - s.pos < n then { s with err := .truncated, val := 0 }
    else { s with val := BitVec.ofNat 64 (streamBits s.buf s.pos n), pos := s.pos + n } := by
  rcases readBits_cases n s with ⟨he, read⟩ | ⟨he, hn, read⟩ | ⟨he, hn, read⟩
  · rw [if_pos he, read]
  · rw [if_neg (not_not.2 he), if_pos hn, read]
  · rw [if_neg (not_not.2 he), if_neg (Nat.not_lt.2 hn), read]

/-- Settles O11: `RDB n` is the fixed-width read. -/
theorem rdbResult : Obligations.RdbResult := fun n s h1 h64 =>
  (exec_rdb h1 h64 s).trans (congrArg _ (readBits_eq n s))

/-- One stream bit as a value (R95). -/
theorem ofNat_streamBits_one (m : Memory) (p : Nat) :
    BitVec.ofNat 64 (streamBits m p 1) = if streamBit m p then 1 else 0 := by
  rw [streamBits_one]
  cases streamBit m p <;> rfl

/-- Settles O14: `RDF` and `RDB 1` are the same read, of one bit. -/
theorem rdfResult : Obligations.RdfResult := by
  intro s
  have rdf : exec .rdf s = .next (readBits 1 s) := rfl
  refine ⟨rdf.trans (exec_rdb le_rfl (by decide) s).symm, ?_⟩
  rw [rdf, readBits_eq, ofNat_streamBits_one]
  simp only [streamEnd, Nat.lt_one_iff, Nat.sub_eq_zero_iff_le]

/-- Settles O15: `errWord` is the widened code. -/
theorem statResult : Obligations.StatResult := by
  intro s
  rw [BitVec.ofNat_toNat]
  rfl

/-- Settles O16: `SERR` takes the error and does nothing else. -/
theorem serrResult : Obligations.SerrResult := fun c s hc =>
  (exec_serr hc s).trans (congrArg _ (takeError_eq c s))

/-- Settles O17: `INIT` re-creates the cursor. -/
theorem initResult : Obligations.InitResult := fun _ => rfl

/-- Settles O19: each of the three is a field read, which a set latch stops. -/
theorem latchedReadsGiveZero : Obligations.LatchedReadsGiveZero := fun s h =>
  ⟨fun _ h1 h64 => (exec_rdb h1 h64 s).trans (congrArg _ (readField_latched h)),
    congrArg Host.Outcome.next (readField_latched (k := .f) h),
    congrArg Host.Outcome.next (readField_latched (k := .ue) h)⟩

/-! ### Commands and the latch -/

/-- An `RDB` that completes is the read of its field. -/
theorem exec_rdb_next {n : Nat} {s t : State} (h : exec (.rdb n) s = .next t) : t = readField (.u n) s := by
  simp only [exec, execRdb] at h
  split at h <;> cases h
  rfl

/-- A `SERR` that completes records its error. -/
theorem exec_serr_next {c : ErrCode} {s t : State} (h : exec (.serr c) s = .next t) : t = recordError c s := by
  simp only [exec, execSerr] at h
  split at h <;> cases h
  rfl

/-- Each of the three read commands is the read of a field. -/
theorem exec_read {i : Instr} {s t : State} (hi : i = .rdf ∨ i = .rdue ∨ ∃ n, i = .rdb n) (h : exec i s = .next t) :
    ∃ k, t = readField k s := by
  rcases hi with rfl | rfl | ⟨n, rfl⟩
  · cases h; exact ⟨.f, rfl⟩
  · cases h; exact ⟨.ue, rfl⟩
  · exact ⟨.u n, exec_rdb_next h⟩

/-- A field read that latches an error consumes nothing and gives 0 (R93, R114). -/
theorem readField_of_fails {k : FieldKind} {s : State} (he : s.err = .ok) (h : (readField k s).err ≠ .ok) :
    (readField k s).pos = s.pos ∧ (readField k s).val = 0 := by
  rcases readField_cases k s with ⟨hl, -⟩ | ⟨-, e, -, read⟩ | ⟨-, v, p, -, -, read⟩
  · exact absurd he hl
  · rw [read]; exact ⟨rfl, rfl⟩
  · rw [read] at h; exact absurd he h

/-- A set latch pins the cursor and keeps its code, under every command but the two that re-create the cursor
(R93, R203, R212). -/
theorem exec_latched {i : Instr} {s t : State} (hinit : i ≠ .init) (hdsps : i ≠ .dsps) (he : s.err ≠ .ok)
    (h : exec i s = .next t) : t.pos = s.pos ∧ t.err = s.err := by
  have read : ∀ k, (readField k s).pos = s.pos ∧ (readField k s).err = s.err := fun k => by
    rw [readField_latched he]; exact ⟨rfl, rfl⟩
  cases i with
  | rdb n => rw [exec_rdb_next h]; exact read (.u n)
  | rdf => cases h; exact read .f
  | rdue => cases h; exact read .ue
  | stat => cases h; exact ⟨rfl, rfl⟩
  | serr c => rw [exec_serr_next h]; exact ⟨recordError_pos c s, by rw [recordError_err, if_neg he]⟩
  | init => exact absurd rfl hinit
  | dsps => exact absurd rfl hdsps

/-- Settles O24, its two halves. -/
theorem failingReadsConsumeNothing : Obligations.FailingReadsConsumeNothing := by
  refine ⟨fun i s t hi h he ht => ?_, fun i s t => exec_latched⟩
  obtain ⟨k, rfl⟩ := exec_read hi h
  exact readField_of_fails he ht

/-! ### A rejected aspect ratio -/

/-- With the presence flag 1 the IDC is read, and the sample aspect ratio follows (R181). -/
theorem vuiAspectRatio_of_present {s : State} {idc : Nat} (h : StreamHolds s [(.f, 1), (.u 8, idc)]) :
    ∃ t, vuiAspectRatio s = readSar t ∧
      Reading s [(.f, 1), (.u 8, idc)] [] t
        { s with vui := { s.vui with aspectRatioInfoPresentFlag := true, aspectRatioIdc := BitVec.ofNat 8 idc } } := by
  have opened := (Reading.start h).seq (.vui .aspectRatio)
  have flag := opened.vui (fun v r => { r with aspectRatioInfoPresentFlag := isOne v }) (readsField_f opened.ahead)
  have code := flag.vui (fun v r => { r with aspectRatioIdc := v.setWidth 8 }) (readsField_u flag.ahead)
  rw [BitVec.setWidth_ofNat_of_le (by decide)] at code
  exact ⟨_, if_pos (by rw [flag.vuiOf]; rfl), code⟩

/-- The lookup's rejection is an error like any other (R181, R204). -/
theorem readSar_of_rejected {s : State} (hx : s.vui.aspectRatioIdc ≠ s.params.extendedSar)
    (hl : lookupSar s.params s.vui.aspectRatioIdc = none) : readSar s = recordError .unknownAspectRatioIDC s := by
  simp only [readSar, if_neg hx, applySarLookup, hl]

/-- `VUI.*` where only the presence flag and the IDC of the aspect ratio are set. -/
def aspectIdcOnly (idc : BitVec 8) : VuiRecord := { aspectRatioInfoPresentFlag := true, aspectRatioIdc := idc }

/-- The VUI routine once the lookup has rejected `idc`, the cursor standing at `p` (R181). -/
structure SarRejected (idc : BitVec 8) (p : Nat) (s : State) : Prop where
  err : s.err = .unknownAspectRatioIDC
  pos : s.pos = p
  vui : s.vui = aspectIdcOnly idc

/-- The first 9 bits are the presence flag and the IDC, and the IDC is rejected (R181). -/
theorem sarRejected_vuiAspectRatio {s : State} {idc : Nat} (h : StreamHolds s [(.f, 1), (.u 8, idc)]) (hv : s.vui = {})
    (hx : BitVec.ofNat 8 idc ≠ s.params.extendedSar) (hl : lookupSar s.params (BitVec.ofNat 8 idc) = none) :
    SarRejected (BitVec.ofNat 8 idc) (s.pos + 9) (vuiAspectRatio s) := by
  obtain ⟨t, sar, read⟩ := vuiAspectRatio_of_present h
  have vui : t.vui = aspectIdcOnly (BitVec.ofNat 8 idc) := by rw [read.vuiOf, hv]; rfl
  have pos : t.pos = s.pos + 9 := by rw [read.into]; rfl
  rw [sar, readSar_of_rejected (by rwa [vui, read.paramsOf]) (by rwa [vui, read.paramsOf])]
  exact ⟨by rw [recordError_err, if_pos read.ahead.1], (recordError_pos _ t).trans pos, (recordError_vui _ t).trans vui⟩

section
variable {idc : BitVec 8} {p : Nat} {s : State} (h : SarRejected idc p s)
include h

theorem SarRejected.seq (q : Seq) : SarRejected idc p (setSeq q s) := ⟨h.err, h.pos, h.vui⟩

/-- A later read gives 0 (R90), and where that is stored 0 stands already. -/
theorem SarRejected.vuiField (k : FieldKind) {put : Word → VuiRecord → VuiRecord}
    (hput : put 0 (aspectIdcOnly idc) = aspectIdcOnly idc) : SarRejected idc p (readVui k put s) := by
  have latched : readField k s = { s with val := 0 } := readField_latched (by rw [h.err]; nofun)
  exact ⟨by rw [readVui_err, latched, h.err], by rw [readVui_pos, latched, h.pos],
    by rw [readVui_vui, latched, h.vui, hput]⟩

/-- Every later VUI group opens with a flag, which is read as 0, and ends there. -/
theorem SarRejected.group {a : State} (q : Seq) (put : Word → VuiRecord → VuiRecord) (flag : VuiRecord → Bool)
    (hput : put 0 (aspectIdcOnly idc) = aspectIdcOnly idc) (hflag : flag (aspectIdcOnly idc) = false) :
    SarRejected idc p
      (if flag (readVui .f put (setSeq q s)).vui then a else readVui .f put (setSeq q s)) := by
  have opened := (h.seq q).vuiField .f hput
  rwa [opened.vui, hflag, if_neg Bool.false_ne_true]

theorem SarRejected.overscan : SarRejected idc p (vuiOverscan s) := h.group _ _ (·.overscanInfoPresentFlag) rfl rfl

theorem SarRejected.videoSignal : SarRejected idc p (vuiVideoSignal s) :=
  h.group _ _ (·.videoSignalTypePresentFlag) rfl rfl

theorem SarRejected.chromaLocation : SarRejected idc p (vuiChromaLocation s) :=
  h.group _ _ (·.chromaLocInfoPresentFlag) rfl rfl

theorem SarRejected.threeFlags : SarRejected idc p (vuiThreeFlags s) :=
  (((h.seq _).vuiField .f rfl).vuiField .f rfl).vuiField .f rfl

theorem SarRejected.displayWindow : SarRejected idc p (vuiDisplayWindow s) :=
  h.group _ _ (·.defaultDisplayWindowFlag) rfl rfl

theorem SarRejected.timing : SarRejected idc p (vuiTiming s) := h.group _ _ (·.timingInfoPresentFlag) rfl rfl

theorem SarRejected.restrictionFlag : SarRejected idc p (vuiRestrictionFlag s) :=
  h.group _ _ (·.bitstreamRestrictionFlag) rfl rfl

end

/-- Without the HRD exit the routine goes on with the bitstream restrictions (R180, R189). -/
theorem vuiParameters_of_no_exit {s : State} (h : hrdExit (vuiGroups s) = false) :
    vuiParameters s = vuiRestrictionFlag (vuiGroups s) := by
  simp only [vuiParameters, h, Bool.false_eq_true, if_false]

/-- The routine ends as the aspect ratio left it; the HRD exit is not taken, since timing info is not there (R189). -/
theorem sarRejected_vuiParameters {idc : BitVec 8} {p : Nat} {s : State} (h : SarRejected idc p (vuiAspectRatio s)) :
    SarRejected idc p (vuiParameters s) := by
  have groups : SarRejected idc p (vuiGroups s) :=
    h.overscan.videoSignal.chromaLocation.threeFlags.displayWindow.timing
  have noExit : hrdExit (vuiGroups s) = false := by rw [hrdExit, groups.vui]; rfl
  rw [vuiParameters_of_no_exit noExit]
  exact groups.restrictionFlag

/-- Settles O55: the presence flag and the IDC are read, the lookup sets the latch, and the routine reads no more. -/
theorem rejectedAspectRatio : Obligations.RejectedAspectRatio := by
  intro s he hv hp hb hx hl
  have holds : StreamHolds s [(.f, 1), (.u 8, streamBits s.buf (s.pos + 1) 8)] :=
    ⟨he, hp, by simp [fieldsAt, fieldAt, fieldWidth, hb]⟩
  have rejected := sarRejected_vuiParameters (sarRejected_vuiAspectRatio holds hv hx hl)
  exact ⟨rejected.err, rejected.pos, vuiParameters_bsr (by rw [rejected.vui]; rfl), rejected.vui⟩

end Sys2Proof.Machine

namespace Sys2Proof.Machine

/-! ### Exp-Golomb reads that fail -/

/-- The scan runs out where only zero bits are left, too few to exceed the bound (R113). -/
theorem scanZeros_eq_ranOut {m : Memory} {last spare p lz : Nat} (hn : last - p < spare)
    (hz : ∀ q, p ≤ q → q < last → streamBit m q = false) : scanZeros m last spare p lz = .ranOut := by
  induction spare generalizing p lz with
  | zero => omega
  | succ spare ih =>
    rw [scanZeros]
    split
    · rfl
    · rw [if_neg (by rw [hz p le_rfl (by omega)]; nofun)]
      exact ih (by omega) fun q hq => hz q (by omega)

/-- The scan exceeds the bound where `spare` zero bits are left (R113). -/
theorem scanZeros_eq_tooLong {m : Memory} {last spare p lz : Nat} (hl : p + spare ≤ last)
    (hz : ∀ i < spare, streamBit m (p + i) = false) : scanZeros m last spare p lz = .tooLong := by
  induction spare generalizing p lz with
  | zero => rfl
  | succ spare ih =>
    have first : streamBit m p = false := hz 0 (by omega)
    rw [scanZeros, if_neg (by omega), first, if_neg Bool.false_ne_true]
    refine ih (by omega) fun i hi => ?_
    rw [Nat.add_right_comm]
    exact hz (i + 1) (by omega)

/-- The end of the buffer among the leading zeros is `Truncated` (R113). -/
theorem readUe_of_ranOut {s : State} (he : s.err = .ok) (h : leadingZeros s = .ranOut) :
    readUe s = { s with err := .truncated, val := 0 } := by
  rw [readUe, (not_failed_iff s).2 he, if_neg Bool.false_ne_true, h]
  exact takeError_of_ok he

/-- A zero too many is `Malformed` (R113). -/
theorem readUe_of_tooLong {s : State} (he : s.err = .ok) (h : leadingZeros s = .tooLong) :
    readUe s = { s with err := .malformed, val := 0 } := by
  rw [readUe, (not_failed_iff s).2 he, if_neg Bool.false_ne_true, h]
  exact takeError_of_ok he

/-- The variable-length read of a codeword whose suffix runs past the end of the buffer (R114). -/
theorem readUe_of_short_suffix {lz p : Nat} {s : State} (he : s.err = .ok) (h : leadingZeros s = .terminated lz p)
    (hend : streamEnd s < p + lz) (hp : p ≤ streamEnd s) :
    readUe s = { s with err := .truncated, val := 0 } := by
  have suffix : tooFewBits s p lz = true := decide_eq_true (by omega)
  rw [readUe, (not_failed_iff s).2 he, if_neg Bool.false_ne_true, h]
  simp only [suffix, if_true]
  exact takeError_of_ok he

/-- Settles O21: the scan runs out before it can exceed its bound. -/
theorem rdueRunsOutOfBits : Obligations.RdueRunsOutOfBits := by
  intro s he hfew hz
  have scan : leadingZeros s = .ranOut := scanZeros_eq_ranOut (Nat.lt_succ_of_le hfew) hz
  exact congrArg Host.Outcome.next (readUe_of_ranOut he scan)

/-- Settles O22: the scan exceeds its bound at the 33rd zero. -/
theorem rdueSeesTooManyZeros : Obligations.RdueSeesTooManyZeros := by
  intro s he hend hz
  have scan : leadingZeros s = .tooLong := scanZeros_eq_tooLong hend hz
  exact congrArg Host.Outcome.next (readUe_of_tooLong he scan)

/-- Settles O23: the scan finds the terminator, and the suffix is not in the buffer. -/
theorem rdueSuffixTruncated : Obligations.RdueSuffixTruncated := by
  intro lz s he hlz hz h1 hone hshort
  have scan := leadingZeros_of_codeword hlz hz h1 hone
  have short : streamEnd s < s.pos + lz + 1 + lz := by rw [streamEnd]; omega
  exact congrArg Host.Outcome.next (readUe_of_short_suffix he scan short hone)

/-! ### Values and the lengths of their codewords -/

/-- A codeword less its leading zeros, read as one number, is its value plus one (R71, R115). -/
theorem ueValue_add_one (m : Memory) (p lz : Nat) : ueValue m p lz + 1 = 2 ^ lz + streamBits m p lz := by
  have := Nat.two_pow_pos lz
  rw [ueValue]
  omega

/-- The value tells the number of leading zeros (R116). -/
theorem log2_ueValue_add_one (m : Memory) (p lz : Nat) : Nat.log2 (ueValue m p lz + 1) = lz := by
  have suffix := streamBits_lt m p lz
  rw [ueValue_add_one, Nat.log2_eq_iff (by omega), Nat.pow_succ]
  omega

/-- The largest value has 32 leading zeros (R112). -/
theorem ueValue_le {lz : Nat} (h : lz ≤ 32) (m : Memory) (p : Nat) : ueValue m p lz ≤ 2 ^ 33 - 2 := by
  have suffix := streamBits_lt m p lz
  have bound : 2 ^ lz ≤ 2 ^ 32 := Nat.pow_le_pow_right (by decide) h
  have value := ueValue_add_one m p lz
  omega

/-- Settles O26: a read that leaves the latch clear took a codeword, and its value tells its length. -/
theorem rdueLength : Obligations.RdueLength := by
  intro s t h he ht
  obtain rfl : readUe s = t := Host.Outcome.next.inj h
  rcases readUe_cases s with ⟨hl, -⟩ | ⟨-, e, he', read⟩ | ⟨-, lz, hlz, -, read⟩
  · exact absurd he hl
  · rw [read] at ht
    rcases he' with rfl | rfl <;> cases ht
  · replace hlz : lz ≤ 32 := hlz
    have value := ueValue_le hlz s.buf (s.pos + lz + 1)
    have returned : (readUe s).val.toNat = ueValue s.buf (s.pos + lz + 1) lz := by
      rw [read]
      exact Nat.mod_eq_of_lt (by omega)
    have pos : (readUe s).pos = s.pos + 2 * lz + 1 := by rw [read]
    rw [returned, log2_ueValue_add_one, pos]
    omega

/-! ### The canonical codeword -/

section
variable {m : Memory} {p v : Nat} (h : streamBits m p (2 * Nat.log2 (v + 1) + 1) = v + 1)
include h

/-- The bits of the canonical codeword are those of `v + 1`, most significant first (R115). -/
theorem streamBit_of_codeword {i : Nat} (hi : i ≤ 2 * Nat.log2 (v + 1)) :
    streamBit m (p + i) = (v + 1).testBit (2 * Nat.log2 (v + 1) - i) := by
  rw [← testBit_streamBits m p (show i < 2 * Nat.log2 (v + 1) + 1 by omega), h, Nat.add_sub_cancel]

/-- It opens with `log2 (v + 1)` zeros. -/
theorem codeword_zeros {i : Nat} (hi : i < Nat.log2 (v + 1)) : streamBit m (p + i) = false := by
  have top : v + 1 < 2 ^ (Nat.log2 (v + 1) + 1) := Nat.lt_log2_self
  rw [streamBit_of_codeword h (by omega)]
  exact Nat.testBit_lt_two_pow (top.trans_le (Nat.pow_le_pow_right (by decide) (by omega)))

/-- A one follows. -/
theorem codeword_one : streamBit m (p + Nat.log2 (v + 1)) = true := by
  rw [streamBit_of_codeword h (by omega), show 2 * Nat.log2 (v + 1) - Nat.log2 (v + 1) = Nat.log2 (v + 1) by omega]
  exact Nat.testBit_log2 (Nat.succ_ne_zero v)

/-- The suffix is `v + 1` without its leading one. -/
theorem suffix_of_codeword :
    streamBits m (p + Nat.log2 (v + 1) + 1) (Nat.log2 (v + 1)) = v + 1 - 2 ^ Nat.log2 (v + 1) := by
  have low : 2 ^ Nat.log2 (v + 1) ≤ v + 1 := Nat.log2_self_le (Nat.succ_ne_zero v)
  have top : v + 1 < 2 ^ (Nat.log2 (v + 1) + 1) := Nat.lt_log2_self
  have parts := streamBits_add m p (Nat.log2 (v + 1) + 1) (Nat.log2 (v + 1))
  rw [show Nat.log2 (v + 1) + 1 + Nat.log2 (v + 1) = 2 * Nat.log2 (v + 1) + 1 by omega, h] at parts
  generalize Nat.log2 (v + 1) = k at *
  calc streamBits m (p + k + 1) k
      = (v + 1) % 2 ^ k := by
        rw [parts, Nat.mul_add_mod', Nat.add_assoc, Nat.mod_eq_of_lt (streamBits_lt _ _ _)]
    _ = v + 1 - 2 ^ k := by
        rw [Nat.mod_eq_sub_mod low, Nat.mod_eq_of_lt (by rw [Nat.pow_succ] at top; omega)]

/-- The codeword's value is `v` (R71, R115). -/
theorem ueValue_of_codeword : ueValue m (p + Nat.log2 (v + 1) + 1) (Nat.log2 (v + 1)) = v := by
  have low : 2 ^ Nat.log2 (v + 1) ≤ v + 1 := Nat.log2_self_le (Nat.succ_ne_zero v)
  have value := ueValue_add_one m (p + Nat.log2 (v + 1) + 1) (Nat.log2 (v + 1))
  rw [suffix_of_codeword h] at value
  omega

end

/-- Settles O25: the canonical codeword is a codeword, of value `v`. -/
theorem rdueRoundTrip : Obligations.RdueRoundTrip := by
  intro v s hv he hend h
  have short : Nat.log2 (v + 1) ≤ 32 := Nat.lt_succ_iff.1 ((Nat.log2_lt (Nat.succ_ne_zero v)).2 (by omega))
  have read := rdueDecodesACodeword _ s he short (fun _ => codeword_zeros h) (codeword_one h) hend
  exact read.trans (by rw [← ueValue, ueValue_of_codeword h]; rfl)

/-! ### GEOM with small operands -/

/-- Below the sign bit nothing wraps: one axis of the display size (R196, R197). -/
theorem toInt_displaySize {size near far sub : Word} (hsize : size.toNat < 2 ^ 33) (hnear : near.toNat < 2 ^ 33)
    (hfar : far.toNat < 2 ^ 33) (hsub : sub.toNat ≤ 2) :
    (size - (near + far) * sub).toInt = (size.toNat : Int) - (near.toNat + far.toNat) * sub.toNat := by
  have sum : (near + far).toNat = near.toNat + far.toNat := BitVec.toNat_add_of_lt (by omega)
  have product : (near.toNat + far.toNat) * sub.toNat ≤ 2 ^ 34 * 2 := Nat.mul_le_mul (by omega) hsub
  have cropped : ((near + far) * sub).toNat = (near.toNat + far.toNat) * sub.toNat := by
    rw [BitVec.toNat_mul, sum, Nat.mod_eq_of_lt (by omega)]
  rw [BitVec.toInt_sub, BitVec.toInt_eq_toNat_of_lt (by omega), BitVec.toInt_eq_toNat_of_lt (by omega), cropped]
  rw [Int.bmod_eq_of_le (by omega) (by omega)]
  push_cast
  rfl

/-- R195, as numbers. -/
theorem toNat_subsampling (idc : Word) :
    ((subsampling idc).1.toNat : Int) = (if idc = 1 ∨ idc = 2 then 2 else 1) ∧
      ((subsampling idc).2.toNat : Int) = if idc = 1 then 2 else 1 := by
  by_cases h1 : idc = 1
  · rw [subsampling, if_pos h1, if_pos (.inl h1), if_pos h1]
    exact ⟨rfl, rfl⟩
  · by_cases h2 : idc = 2
    · rw [subsampling, if_neg h1, if_pos h2, if_pos (.inr h2), if_neg h1]
      exact ⟨rfl, rfl⟩
    · rw [subsampling, if_neg h1, if_neg h2, if_neg (not_or.2 ⟨h1, h2⟩), if_neg h1]
      exact ⟨rfl, rfl⟩

/-- Settles O57, one axis at a time. -/
theorem geomIsExactWhenSmall : Obligations.GeomIsExactWhenSmall := by
  intro s small
  obtain ⟨width, height⟩ := toNat_subsampling s.sps.chromaFormatIdc
  refine ⟨?_, ?_⟩
  · rw [← width]
    exact toInt_displaySize small.width small.left small.right (by split at width <;> omega)
  · rw [← height]
    exact toInt_displaySize small.height small.top small.bottom (by split at height <;> omega)

end Sys2Proof.Machine

namespace Sys2Proof.Machine

/-! ### DSPS as a whole -/

theorem exec_dsps (s : State) : exec .dsps s = .next (decodeSps s) := rfl

theorem exec_dsps_next {s t : State} (h : exec .dsps s = .next t) : t = decodeSps s := (Host.Outcome.next.inj h).symm

/-- `VAL` is the number of the final latch (R125). -/
theorem finishDsps_val (s : State) : (finishDsps s).val = BitVec.ofNat 64 (errCode s.err).toNat :=
  (BitVec.ofNat_toNat 64 (errCode s.err)).symm

/-- Settles O36: the walk keeps the buffer and the model's own fields, whichever way it goes. -/
theorem dspsCompletes : Obligations.DspsCompletes := by
  intro s
  refine ⟨_, exec_dsps s, ?_⟩
  have walk := walkSps_moves (startDsps s)
  rw [decodeSps]
  generalize walkState (walkSps (startDsps s)) = u at walk
  exact ⟨rfl, finishDsps_val u, walk.buf, walk.len, walk.params, walk.inputs, fun a =>
    congrArg (fun m => memRead m a) walk.buf⟩

/-- Settles O44: what the invariant says of `SLOI` holds after every DSPS. -/
theorem sloiHasOneEntry : Obligations.SloiHasOneEntry := by
  intro s t h
  obtain rfl := exec_dsps_next h
  have record := (decodeSps_record s).1
  split
  · exact record.oneSloi ‹_›
  · rw [(record.stopped ‹_›).1]
    rfl

/-! ### The long-term entries -/

/-- A fixed-width read does not look at the temporaries. -/
theorem readBits_noteTemps (n : Nat) (f : Temps → Temps) (s : State) :
    readBits n (noteTemps f s) = noteTemps f (readBits n s) := by
  rcases readBits_cases n s with ⟨he, read⟩ | ⟨he, hn, read⟩ | ⟨he, hn, read⟩ <;> rw [read]
  · exact readBits_latched (s := noteTemps f s) he
  · exact readBits_truncated (s := noteTemps f s) he hn
  · exact readBits_ok (s := noteTemps f s) he hn

/-- Up to 64 bits an entry is a read of that width and a flag (R142). -/
theorem longTermEntry_of_le {i : Nat} {s : State} (h : longTermWidth s.sps ≤ 64) :
    longTermEntry i s = noteTemps (fun r => { r with i := i }) (readFlag (readBits (longTermWidth s.sps) s)) := by
  have narrow : longTermEntry i s =
      readBits 1 (readBits (longTermWidth s.sps) (noteTemps (fun r => { r with i := i }) s)) :=
    congrArg (readBits 1) (if_pos h)
  rw [narrow, readBits_noteTemps, readBits_noteTemps, readFlag]

/-- Above 64 bits the guard takes the place of the skip, and the flag's read finds the latch set (R90, R143). -/
theorem longTermEntry_of_gt {i : Nat} {s : State} (h : 64 < longTermWidth s.sps) :
    longTermEntry i s =
      { s with err := if s.err = .ok then .malformed else s.err, val := 0, temps := { s.temps with i := i } } := by
  have wide : longTermEntry i s = readField .f (recordError .malformed (noteTemps (fun r => { r with i := i }) s)) :=
    congrArg (readField .f) (if_neg (Nat.not_le.2 h))
  have set : (if s.err = .ok then ErrCode.malformed else s.err) ≠ .ok := by
    split
    · nofun
    · assumption
  rw [wide, recordError, takeError_eq, readField_latched set]
  rfl

/-- With the latch set an entry writes `VAL` and the loop index only (R90, R142). -/
theorem longTermEntry_latched {i : Nat} {s : State} (h : s.err ≠ .ok) :
    longTermEntry i s = setVal 0 (noteTemps (fun r => { r with i := i }) s) := by
  rcases Nat.lt_or_ge 64 (longTermWidth s.sps) with wide | narrow
  · rw [longTermEntry_of_gt wide, if_neg h]
    rfl
  · rw [longTermEntry_of_le narrow, readBits_latched h, readFlag, readBits_latched (s := { s with val := 0 }) h]
    rfl

/-- With the latch set the whole loop comes to `VAL` and the last loop index (R142). -/
theorem longTermLoop_latched {count first : Nat} {s : State} (h : s.err ≠ .ok) :
    repeatFor longTermEntry (count + 1) first s = setVal 0 (noteTemps (fun r => { r with i := first + count }) s) := by
  induction count generalizing first s with
  | zero => exact longTermEntry_latched h
  | succ count ih =>
    rw [repeatFor_succ, longTermEntry_latched h, ih (s := setVal 0 (noteTemps _ s)) h, Nat.add_right_comm]
    rfl

/-- Settles O51, by induction on the count: the loops part only where the latch is set. -/
theorem longTermClosedForm : Obligations.LongTermClosedForm := by
  intro count first s
  induction count generalizing first s with
  | zero => rfl
  | succ count ih =>
    rw [longTermSkip]
    split
    · exact (longTermLoop_latched ((failed_iff s).1 ‹_›)).symm
    · exact ih _ _

end Sys2Proof.Machine

namespace Sys2Proof.Machine

/-! ### Reading the fields that the stream holds -/

section
variable {s t u u' : State} {k : FieldKind} {v : Nat} {fs gs done todo : Fields}

/-- An Exp-Golomb field: its value is in range, and its bits are the canonical codeword (R112, R115). -/
theorem StreamHolds.codeword (h : StreamHolds s ((.ue, v) :: fs)) :
    v ≤ 2 ^ 33 - 2 ∧ streamBits s.buf s.pos (fieldWidth .ue v) = v + 1 := by
  obtain ⟨-, -, field⟩ := h.first
  exact of_decide_eq_true field

/-- `RDUE`'s round trip is the read of the field. -/
theorem readsField_ue (h : StreamHolds s ((.ue, v) :: fs)) : ReadsField .ue v s := by
  obtain ⟨clear, inside, -⟩ := h.first
  obtain ⟨small, code⟩ := h.codeword
  exact Host.Outcome.next.inj (rdueRoundTrip v s small clear inside code)

/-- The next field that the stream holds is the next one read. -/
theorem readsField (h : StreamHolds s ((k, v) :: fs)) : ReadsField k v s := by
  cases k with
  | u n => exact readsField_u h
  | f => exact readsField_f h
  | ue => exact readsField_ue h

/-- One read that stores into `REC.*`, where the stream holds its field. -/
theorem readSps_of_holds (put : Word → SpsRecord → SpsRecord) (h : StreamHolds s ((k, v) :: fs)) :
    readSps k put s =
      { s with pos := s.pos + fieldWidth k v, val := BitVec.ofNat 64 v, sps := put (BitVec.ofNat 64 v) s.sps } := by
  rw [readSps, readsField h]
  rfl

/-- A count read as an Exp-Golomb field is its own value as a number (R112). -/
theorem toNat_ofNat_of_codeword (h : StreamHolds s ((.ue, v) :: fs)) : (BitVec.ofNat 64 v).toNat = v := by
  have small := h.codeword.1
  rw [BitVec.toNat_ofNat, Nat.mod_eq_of_lt (by omega)]

theorem Reading.nextField (h : Reading s done ((k, v) :: todo) t u) :
    Reading s (done ++ [(k, v)]) todo (readField k t) u := h.field (readsField h.ahead)

theorem Reading.nextTemp (h : Reading s done ((k, v) :: todo) t u) (put : Word → Temps → Temps) :
    Reading s (done ++ [(k, v)]) todo (readTemp k put t) u := h.temp put (readsField h.ahead)

theorem Reading.nextSps (h : Reading s done ((k, v) :: todo) t u) (put : Word → SpsRecord → SpsRecord) :
    Reading s (done ++ [(k, v)]) todo (readSps k put t) (setSps (put (BitVec.ofNat 64 v) u.sps) u) :=
  h.sps put (readsField h.ahead)

theorem Reading.nextVui (h : Reading s done ((k, v) :: todo) t u) (put : Word → VuiRecord → VuiRecord) :
    Reading s (done ++ [(k, v)]) todo (readVui k put t) (setVui (put (BitVec.ofNat 64 v) u.vui) u) :=
  h.vui put (readsField h.ahead)

theorem Reading.nextBsr (h : Reading s done ((k, v) :: todo) t u) (put : Word → BsrRecord → BsrRecord) :
    Reading s (done ++ [(k, v)]) todo (readBsr k put t) (setBsr (put (BitVec.ofNat 64 v) u.bsr) u) :=
  h.bsr put (readsField h.ahead)

/-- The same reading, what was read and what was stored written in another way. -/
theorem Reading.cast (h : Reading s fs todo t u) (hf : fs = gs) (hu : u = u') : Reading s gs todo t u' := by
  subst hf hu
  exact h

section
variable {a b : State} {done' todo' : Fields}

/-- A step that looks at the record and goes no further. -/
theorem Reading.skipSps (c : SpsRecord → Prop) [DecidablePred c] (h : Reading s done todo t u) (hc : ¬ c u.sps) :
    Reading s done todo (if c t.sps then a else t) u := by
  rwa [if_neg (by rwa [h.spsOf])]

/-- A step that looks at the record and goes on reading. -/
theorem Reading.takeSps (c : SpsRecord → Prop) [DecidablePred c] (h : Reading s done todo t u) (hc : c u.sps)
    (more : Reading s done todo t u → Reading s done' todo' a u') :
    Reading s done' todo' (if c t.sps then a else b) u' := by
  rw [if_pos (by rwa [h.spsOf])]
  exact more h

/-- The same two for the registers `VUI.*`. -/
theorem Reading.skipVui (c : VuiRecord → Prop) [DecidablePred c] (h : Reading s done todo t u) (hc : ¬ c u.vui) :
    Reading s done todo (if c t.vui then a else t) u := by
  rwa [if_neg (by rwa [h.vuiOf])]

theorem Reading.takeVui (c : VuiRecord → Prop) [DecidablePred c] (h : Reading s done todo t u) (hc : c u.vui)
    (more : Reading s done todo t u → Reading s done' todo' a u') :
    Reading s done' todo' (if c t.vui then a else b) u' := by
  rw [if_pos (by rwa [h.vuiOf])]
  exact more h

end

/-- A flag of the stream that is written as a number (R70). -/
@[simp] theorem isOne_zero : isOne (BitVec.ofNat 64 0) = false := rfl

@[simp] theorem isOne_one : isOne (BitVec.ofNat 64 1) = true := rfl

/-- A store that neither looks at the cursor nor changes it or the buffer. -/
theorem Reading.store (f : State → State) (h : Reading s done todo t u)
    (hf : ∀ p v q x, f { u with pos := p, val := v, seq := q, temps := x } =
      { f u with pos := p, val := v, seq := q, temps := x } := by intros; rfl)
    (hk : (f t).err = t.err ∧ (f t).pos = t.pos ∧ (f t).len = t.len ∧ (f t).buf = t.buf := by
      exact ⟨rfl, rfl, rfl, rfl⟩) :
    Reading s done todo (f t) (f u) := by
  obtain ⟨err, pos, len, buf⟩ := hk
  have stored := (congrArg f h.into).trans (hf _ _ _ _)
  exact ⟨by rw [ReadsInto, stored], h.ahead.congr err pos len buf⟩

theorem Reading.posOf (h : Reading s done todo t u) : t.pos = s.pos + fieldsWidth done := by rw [h.into]

end

end Sys2Proof.Machine

namespace Sys2Proof.Machine

/-! ### The steps of the walk, from one reading to the next -/

section
variable {s t u : State} {done todo : Fields}

/-- Step Q4 with another chroma format than 3 (R131). -/
theorem Reading.q4 {id idc : Nat} (h : Reading s done ((.ue, id) :: (.ue, idc) :: todo) t u) (hidc : idc ≠ 3) :
    Reading s (done ++ [(.ue, id), (.ue, idc)]) todo (seqQ4 t)
      { u with sps := { u.sps with spsId := BitVec.ofNat 64 id, chromaFormatIdc := BitVec.ofNat 64 idc } } := by
  have other : BitVec.ofNat 64 idc ≠ 3 := fun three =>
    hidc ((toNat_ofNat_of_codeword h.nextField.ahead).symm.trans (congrArg BitVec.toNat three))
  exact (((h.seq .q4).nextSps _).nextSps _ |>.skipSps (·.chromaFormatIdc = 3) (by exact other)).cast (by simp)
    (by simp [setSps])

/-- Step Q4 with chroma format 3: the plane flag follows (R131). -/
theorem Reading.q4_plane {id : Nat} {plane : Bool}
    (h : Reading s done ((.ue, id) :: (.ue, 3) :: (.f, plane.toNat) :: todo) t u) :
    Reading s (done ++ [(.ue, id), (.ue, 3), (.f, plane.toNat)]) todo (seqQ4 t)
      { u with sps := { u.sps with
          spsId := BitVec.ofNat 64 id, chromaFormatIdc := 3, separateColourPlaneFlag := plane } } :=
  (((h.seq .q4).nextSps _).nextSps _).takeSps (·.chromaFormatIdc = 3) rfl fun read =>
    (read.nextSps _).cast (by simp) (by simp [setSps])

/-- Step Q5 without a conformance window (R132). -/
theorem Reading.q5 {width height : Nat} (h : Reading s done ((.ue, width) :: (.ue, height) :: (.f, 0) :: todo) t u) :
    Reading s (done ++ [(.ue, width), (.ue, height), (.f, 0)]) todo (seqQ5 t)
      { u with sps := { u.sps with
          picWidth := BitVec.ofNat 64 width, picHeight := BitVec.ofNat 64 height, conformanceWindowFlag := false } } :=
  ((((h.seq .q5).nextSps _).nextSps _).nextSps _ |>.skipSps (·.conformanceWindowFlag) (by nofun)).cast (by simp)
    (by simp [setSps])

/-- Step Q5 with a conformance window (R132). -/
theorem Reading.q5_window {width height left right top bottom : Nat}
    (h : Reading s done ((.ue, width) :: (.ue, height) :: (.f, 1) :: (.ue, left) :: (.ue, right) :: (.ue, top) ::
      (.ue, bottom) :: todo) t u) :
    Reading s (done ++ [(.ue, width), (.ue, height), (.f, 1), (.ue, left), (.ue, right), (.ue, top),
        (.ue, bottom)]) todo (seqQ5 t)
      { u with sps := { u.sps with
          picWidth := BitVec.ofNat 64 width, picHeight := BitVec.ofNat 64 height, conformanceWindowFlag := true
          window := { left := BitVec.ofNat 64 left, right := BitVec.ofNat 64 right, top := BitVec.ofNat 64 top,
                      bottom := BitVec.ofNat 64 bottom } } } :=
  ((((h.seq .q5).nextSps _).nextSps _).nextSps _).takeSps (·.conformanceWindowFlag) rfl fun read =>
    ((((read.nextSps _).nextSps _).nextSps _).nextSps _).cast (by simp) (by simp [setSps])

/-- Step Q6 (R133). -/
theorem Reading.q6 {luma chroma poc : Nat}
    (h : Reading s done ((.ue, luma) :: (.ue, chroma) :: (.ue, poc) :: todo) t u) :
    Reading s (done ++ [(.ue, luma), (.ue, chroma), (.ue, poc)]) todo (seqQ6 t)
      { u with sps := { u.sps with
          bitDepthLumaMinus8 := BitVec.ofNat 64 luma, bitDepthChromaMinus8 := BitVec.ofNat 64 chroma
          log2MaxPocLsbMinus4 := BitVec.ofNat 64 poc } } :=
  ((((h.seq .q6).nextSps _).nextSps _).nextSps _).cast (by simp) (by simp [setSps])

/-- Step Q8 (R136). -/
theorem Reading.q8 {cbMin cbDiff tbMin tbDiff inter intra : Nat}
    (h : Reading s done ((.ue, cbMin) :: (.ue, cbDiff) :: (.ue, tbMin) :: (.ue, tbDiff) :: (.ue, inter) ::
      (.ue, intra) :: todo) t u) :
    Reading s (done ++ [(.ue, cbMin), (.ue, cbDiff), (.ue, tbMin), (.ue, tbDiff), (.ue, inter), (.ue, intra)]) todo
      (seqQ8 t)
      { u with sps := { u.sps with
          log2MinLumaCbSizeMinus3 := BitVec.ofNat 64 cbMin, log2DiffMaxMinLumaCbSize := BitVec.ofNat 64 cbDiff
          log2MinLumaTbSizeMinus2 := BitVec.ofNat 64 tbMin, log2DiffMaxMinLumaTbSize := BitVec.ofNat 64 tbDiff
          maxTransformHierarchyDepthInter := BitVec.ofNat 64 inter
          maxTransformHierarchyDepthIntra := BitVec.ofNat 64 intra } } :=
  (((((((h.seq .q8).nextSps _).nextSps _).nextSps _).nextSps _).nextSps _).nextSps _).cast (by simp) (by simp [setSps])

/-- Step Q9 without scaling lists (R137). -/
theorem Reading.q9 (h : Reading s done ((.f, 0) :: todo) t u) :
    Reading s (done ++ [(.f, 0)]) todo (seqQ9 t) { u with sps := { u.sps with scalingListEnabledFlag := false } } :=
  ((h.seq .q9).nextSps _).skipSps (·.scalingListEnabledFlag) (by nofun)

/-- Step Q9 with the default scaling lists: no data are there (R137). -/
theorem Reading.q9_default (h : Reading s done ((.f, 1) :: (.f, 0) :: todo) t u) :
    Reading s (done ++ [(.f, 1), (.f, 0)]) todo (seqQ9 t)
      { u with sps := { u.sps with scalingListEnabledFlag := true, scalingListDataPresentFlag := false } } :=
  ((h.seq .q9).nextSps _).takeSps (·.scalingListEnabledFlag) rfl fun read =>
    ((read.nextSps _).skipSps (·.scalingListDataPresentFlag) (by nofun)).cast (by simp) (by simp [setSps])

/-- The skip routine begins after the data-present flag (R137). -/
theorem readScalingData_of_data (h : StreamHolds s [(.f, 1)]) :
    readScalingData s = setSeq .q9 (scalingListSkip { s with
      pos := s.pos + 1, val := 1, sps := { s.sps with scalingListDataPresentFlag := true } }) := by
  have flag := readSps_of_holds (fun v r => { r with scalingListDataPresentFlag := isOne v }) h
  have branch : readScalingData s = setSeq .q9 (scalingListSkip
      (readSps .f (fun v r => { r with scalingListDataPresentFlag := isOne v }) s)) := if_pos (by rw [flag]; rfl)
  rw [branch, flag]
  rfl

/-- Step Q9 with scaling-list data (R137). -/
theorem seqQ9_of_data (h : StreamHolds s [(.f, 1), (.f, 1)]) :
    seqQ9 s = setSeq .q9 (scalingListSkip { s with
      pos := s.pos + 2, val := 1, seq := .q9
      sps := { s.sps with scalingListEnabledFlag := true, scalingListDataPresentFlag := true } }) := by
  have flag := readSps_of_holds (s := setSeq .q9 s) (fun v r => { r with scalingListEnabledFlag := isOne v })
    (h.congr rfl rfl rfl rfl)
  have branch : seqQ9 s = readScalingData (readSps .f (fun v r => { r with scalingListEnabledFlag := isOne v })
      (setSeq .q9 s)) := if_pos (by rw [flag]; rfl)
  rw [branch, flag]
  exact readScalingData_of_data (h.next rfl rfl rfl rfl)

/-- Step Q10 without PCM (R138). -/
theorem Reading.q10 {amp sao : Bool} (h : Reading s done ((.f, amp.toNat) :: (.f, sao.toNat) :: (.f, 0) :: todo) t u) :
    Reading s (done ++ [(.f, amp.toNat), (.f, sao.toNat), (.f, 0)]) todo (seqQ10 t)
      { u with sps := { u.sps with ampEnabledFlag := amp, saoEnabledFlag := sao, pcmEnabledFlag := false } } :=
  ((((h.seq .q10).nextSps _).nextSps _).nextSps _ |>.skipSps (·.pcmEnabledFlag) (by nofun)).cast (by simp)
    (by simp [setSps])

/-- Step Q10 with PCM (R138). -/
theorem Reading.q10_pcm {amp sao loop : Bool} {luma chroma cbMin cbDiff : Nat}
    (h : Reading s done ((.f, amp.toNat) :: (.f, sao.toNat) :: (.f, 1) :: (.u 4, luma) :: (.u 4, chroma) ::
      (.ue, cbMin) :: (.ue, cbDiff) :: (.f, loop.toNat) :: todo) t u) :
    Reading s (done ++ [(.f, amp.toNat), (.f, sao.toNat), (.f, 1), (.u 4, luma), (.u 4, chroma), (.ue, cbMin),
        (.ue, cbDiff), (.f, loop.toNat)]) todo (seqQ10 t)
      { u with sps := { u.sps with
          ampEnabledFlag := amp, saoEnabledFlag := sao, pcmEnabledFlag := true
          pcmBitDepthLumaMinus1 := BitVec.ofNat 4 luma, pcmBitDepthChromaMinus1 := BitVec.ofNat 4 chroma
          log2MinPcmCbSizeMinus3 := BitVec.ofNat 64 cbMin, log2DiffMaxMinPcmCbSize := BitVec.ofNat 64 cbDiff
          pcmLoopFilterDisabledFlag := loop } } :=
  ((((h.seq .q10).nextSps _).nextSps _).nextSps _).takeSps (·.pcmEnabledFlag) rfl fun read =>
    (((((read.nextSps _).nextSps _).nextSps _).nextSps _).nextSps _).cast (by simp)
      (by simp [setSps, BitVec.setWidth_ofNat_of_le])

end

end Sys2Proof.Machine

namespace Sys2Proof.Machine

/-! ### Loops over the fields of the stream -/

section
variable {s t u : State} {done todo : Fields}

/-- A loop whose iterations each read the fields of one item, as many as there are items. -/
theorem Reading.loop {α : Type} {fields : α → Fields} {store : α → State → State} {body : Nat → State → State}
    {P : State → Prop} (hP : ∀ {a u}, P u → P (store a u))
    (hb : ∀ {i a done todo t u}, P u → Reading s done (fields a ++ todo) t u →
      Reading s (done ++ fields a) todo (body i t) (store a u))
    (items : List α) (first : Nat) (hu : P u) (h : Reading s done (items.flatMap fields ++ todo) t u) :
    Reading s (done ++ items.flatMap fields) todo (repeatFor body items.length first t)
      (items.foldl (fun u a => store a u) u) := by
  induction items generalizing first done t u with
  | nil => exact h.cast (by simp) rfl
  | cons a items ih =>
    rw [List.flatMap_cons, List.append_assoc] at h
    exact (ih (first + 1) (hP hu) (hb hu h)).cast (by simp) rfl

/-- The fields of one SubLayerOrderingInfo (R134). -/
def sloiFields (e : Nat × Nat × Nat) : Fields := [(.ue, e.1), (.ue, e.2.1), (.ue, e.2.2)]

/-- What they are stored as (R134). -/
def storedSloi (e : Nat × Nat × Nat) : SloiEntry := ⟨BitVec.ofNat 64 e.1, BitVec.ofNat 64 e.2.1, BitVec.ofNat 64 e.2.2⟩

/-- One SubLayerOrderingInfo (R134). -/
theorem Reading.sloiEntry {i : Nat} {e : Nat × Nat × Nat} (h : Reading s done (sloiFields e ++ todo) t u) :
    Reading s (done ++ sloiFields e) todo (readSloiEntry i t) (pushSloi (storedSloi e) u) := by
  have start := h.note fun r => { r with i := i }
  have f0 := start.nextField
  have f1 := f0.nextField
  have entry : readSloiEntry i t = pushSloi (storedSloi e) (readField .ue (readField .ue (readField .ue
      (noteTemps (fun r => { r with i := i }) t)))) := by
    simp only [readSloiEntry, storedSloi, Reading.val (readsField start.ahead), Reading.val (readsField f0.ahead),
      Reading.val (readsField f1.ahead)]
  rw [entry]
  exact (f1.nextField.store (pushSloi _)).cast (by simp [sloiFields]) rfl

/-- Appending several entries (R134). -/
theorem foldl_pushSloi (es : List (Nat × Nat × Nat)) (u : State) :
    es.foldl (fun u e => pushSloi (storedSloi e) u) u = { u with sloi := u.sloi ++ es.map storedSloi } := by
  induction es generalizing u with
  | nil => simp
  | cons e es ih =>
    rw [List.foldl_cons, ih]
    simp [pushSloi]

/-- Step Q7 (R134). -/
theorem Reading.q7 {present : Bool} {es : List (Nat × Nat × Nat)}
    (h : Reading s done ((.f, present.toNat) :: (es.flatMap sloiFields ++ todo)) t u)
    (hes : es.length = if present then u.sps.maxSubLayersMinus1.toNat + 1 else 1) :
    Reading s (done ++ (.f, present.toNat) :: es.flatMap sloiFields) todo (seqQ7 t)
      { u with sps := { u.sps with sloiPresentFlag := present }, sloi := u.sloi ++ es.map storedSloi } := by
  obtain ⟨x, step, read⟩ : ∃ x, seqQ7 t =
        repeatFor readSloiEntry (x.sps.maxSubLayersMinus1.toNat + 1 - firstSubLayer x.sps) (firstSubLayer x.sps) x ∧
      Reading s (done ++ [(.f, present.toNat)]) (es.flatMap sloiFields ++ todo) x
        { u with sps := { u.sps with sloiPresentFlag := present } } :=
    ⟨_, rfl, ((h.seq .q7).nextSps _).cast rfl (by simp [setSps])⟩
  have count : x.sps.maxSubLayersMinus1.toNat + 1 - firstSubLayer x.sps = es.length := by
    rw [read.spsOf, hes, firstSubLayer]
    cases present <;> simp
  have entries := read.loop (body := readSloiEntry) (P := fun _ => True) (fun _ => trivial)
    (fun _ => Reading.sloiEntry) es (firstSubLayer x.sps) trivial
  rw [step, count]
  exact entries.cast (by simp) (foldl_pushSloi es _)

/-! ### Step Q11: the count, and one entry of the loop -/

/-- The state in which step Q11's loop begins. -/
def afterCount (s : State) : State := readSps .ue (fun x r => { r with numShortTermRefPicSets := x }) (setSeq .q11 s)

theorem seqQ11_eq (s : State) :
    seqQ11 s = rpsLoop (afterCount s).sps.numShortTermRefPicSets.toNat 0 (afterCount s) := rfl

/-- The count is read, and the loop begins (R139). -/
theorem seqQ11_of_count {count : Nat} (h : StreamHolds s [(.ue, count)]) :
    seqQ11 s = rpsLoop count 0 { s with
      pos := s.pos + fieldsWidth [(.ue, count)], val := BitVec.ofNat 64 count, seq := .q11
      sps := { s.sps with numShortTermRefPicSets := BitVec.ofNat 64 count } } := by
  have start : StreamHolds (setSeq .q11 s) [(.ue, count)] := h.congr rfl rfl rfl rfl
  rw [seqQ11_eq, afterCount, readSps_of_holds _ start, toNat_ofNat_of_codeword h]
  rfl

/-- An entry is appended to `RPS`, whatever the latch (R140, D18). -/
theorem appendRpsEntry_of_entry {idx : Word} {e : RpsEntry}
    (h : shortTermRps idx s.sps.numShortTermRefPicSets { s with temps := { s.temps with idx := idx } } = (u, e)) :
    appendRpsEntry idx s = { u with rps := u.rps ++ [e], seq := .q11 } := by
  have entry : appendRpsEntry idx s = setSeq .q11 (pushRps
      (shortTermRps idx s.sps.numShortTermRefPicSets { s with temps := { s.temps with idx := idx } }).2
      (shortTermRps idx s.sps.numShortTermRefPicSets { s with temps := { s.temps with idx := idx } }).1) := rfl
  rw [entry, h]
  rfl

/-- The loop goes on after an entry, or stops with the latch in `RESULT` (R140, R141). -/
theorem rpsLoop_succ_of_entry {count : Nat} {idx : Word} {e : RpsEntry}
    (h : shortTermRps idx s.sps.numShortTermRefPicSets { s with temps := { s.temps with idx := idx } } = (u, e)) :
    rpsLoop (count + 1) idx s =
      if u.err = .ok then rpsLoop count (idx + 1) { u with rps := u.rps ++ [e], seq := .q11 }
      else .stop { u with rps := u.rps ++ [e], seq := .q11, result := u.err } := by
  rw [rpsLoop, appendRpsEntry_of_entry h]
  by_cases ok : u.err = .ok
  · rw [if_pos ok, if_neg (by simp [failed, ok])]
  · rw [if_neg ok, if_pos (by simp [failed, ok])]
    rfl

/-! ### Step Q12 -/

/-- The fields of a long-term entry of `n` bits (R142). -/
def longTermFields (n : Nat) (e : Nat × Bool) : Fields := [(.u n, e.1), (.f, e.2.toNat)]

/-- One long-term entry (R142). -/
theorem Reading.longTermEntry {i n : Nat} {e : Nat × Bool} (h : Reading s done (longTermFields n e ++ todo) t u)
    (hn : n = u.sps.log2MaxPocLsbMinus4.toNat + 4) (h64 : n ≤ 64) :
    Reading s (done ++ longTermFields n e) todo (longTermEntry i t) u := by
  have width : n = longTermWidth t.sps := by rw [h.spsOf]; exact hn
  subst width
  rw [longTermEntry_of_le h64]
  exact (h.nextField.nextField.note _).cast (by simp [longTermFields]) rfl

/-- Step Q12 without long-term pictures (R142). -/
theorem Reading.q12 (h : Reading s done ((.f, 0) :: todo) t u) :
    Reading s (done ++ [(.f, 0)]) todo (seqQ12 t)
      { u with sps := { u.sps with longTermRefPicsPresentFlag := false } } :=
  ((h.seq .q12).nextSps _).skipSps (·.longTermRefPicsPresentFlag) (by nofun)

/-- The count, and that many entries (R142). -/
theorem Reading.longTermEntries {n : Nat} {es : List (Nat × Bool)}
    (h : Reading s done ((.ue, es.length) :: (es.flatMap (longTermFields n) ++ todo)) t u)
    (hn : n = u.sps.log2MaxPocLsbMinus4.toNat + 4) (h64 : n ≤ 64) :
    Reading s (done ++ (.ue, es.length) :: es.flatMap (longTermFields n)) todo (readLongTermEntries t) u := by
  obtain ⟨x, hx⟩ : ∃ x, x = readTemp .ue (fun v r => { r with cnt := v }) t := ⟨_, rfl⟩
  have read : Reading s (done ++ [(.ue, es.length)]) (es.flatMap (longTermFields n) ++ todo) x u := hx ▸ h.nextTemp _
  have count : x.temps.cnt.toNat = es.length := by
    rw [hx, readTemp_temps, Reading.val (readsField h.ahead), toNat_ofNat_of_codeword h.ahead]
  have step : readLongTermEntries t = repeatFor Machine.longTermEntry es.length 0 x := by
    rw [← longTermClosedForm, ← count, hx]
    rfl
  have entries := read.loop (body := Machine.longTermEntry) (store := fun _ u => u)
    (P := fun u => n = u.sps.log2MaxPocLsbMinus4.toNat + 4) id (fun hn h => h.longTermEntry hn h64) es 0 hn
  rw [step]
  exact entries.cast (by simp) (List.foldl_fixed es)

/-- Step Q12 with long-term pictures (R142). -/
theorem Reading.q12_entries {n : Nat} {es : List (Nat × Bool)}
    (h : Reading s done ((.f, 1) :: (.ue, es.length) :: (es.flatMap (longTermFields n) ++ todo)) t u)
    (hn : n = u.sps.log2MaxPocLsbMinus4.toNat + 4) (h64 : n ≤ 64) :
    Reading s (done ++ (.f, 1) :: (.ue, es.length) :: es.flatMap (longTermFields n)) todo (seqQ12 t)
      { u with sps := { u.sps with longTermRefPicsPresentFlag := true } } :=
  ((h.seq .q12).nextSps _).takeSps (·.longTermRefPicsPresentFlag) rfl fun read =>
    (read.longTermEntries hn h64).cast (by simp) rfl

/-- Settles O52: the guard, the two reads, and the two reads where the stream holds their fields. -/
theorem longTermWidthGuard : Obligations.LongTermWidthGuard := by
  refine ⟨fun i s wide => ?_, fun i s narrow => ?_, fun i n s v flag hn h64 h => ?_⟩
  · rw [longTermEntry_of_gt wide]
    exact ⟨rfl, rfl, rfl⟩
  · have temps : (readFlag (readBits (longTermWidth s.sps) s)).temps = s.temps :=
      (readField_temps .f _).trans (readField_temps (.u _) s)
    rw [longTermEntry_of_le narrow, ← temps]
    rfl
  · have read := (Reading.start h).longTermEntry (i := i) (e := (v, flag)) (todo := []) hn h64
    exact ⟨read.finish rfl, by rw [read.posOf]; rfl⟩

/-! ### Step Q13 -/

/-- Step Q13 without a VUI (R144). -/
theorem Reading.q13 {mvp smooth : Bool}
    (h : Reading s done ((.f, mvp.toNat) :: (.f, smooth.toNat) :: (.f, 0) :: todo) t u) :
    Reading s (done ++ [(.f, mvp.toNat), (.f, smooth.toNat), (.f, 0)]) todo (seqQ13 t)
      { u with sps := { u.sps with
          temporalMvpEnabledFlag := mvp, strongIntraSmoothingEnabledFlag := smooth
          vuiParametersPresentFlag := false } } :=
  ((((h.seq .q13).nextSps _).nextSps _).nextSps _ |>.skipSps (·.vuiParametersPresentFlag) (by nofun)).cast (by simp)
    (by simp [setSps])

/-- Step Q13 with a VUI: the cursor stands after the three flags when the routine begins (R144, R145). -/
theorem seqQ13_of_vui {mvp smooth : Bool} (h : StreamHolds s [(.f, mvp.toNat), (.f, smooth.toNat), (.f, 1)]) :
    seqQ13 s = setSeq .q13 (vuiParameters { s with
      pos := s.pos + 3, val := 1, seq := .q13
      sps := { s.sps with
        temporalMvpEnabledFlag := mvp, strongIntraSmoothingEnabledFlag := smooth
        vuiParametersPresentFlag := true } }) := by
  have two := (((Reading.start h).seq .q13).nextSps fun v r => { r with temporalMvpEnabledFlag := isOne v }).nextSps
    fun v r => { r with strongIntraSmoothingEnabledFlag := isOne v }
  have three := two.nextSps fun v r => { r with vuiParametersPresentFlag := isOne v }
  have branch : seqQ13 s = setSeq .q13 (vuiParameters _) := if_pos (by rw [three.spsOf]; rfl)
  rw [branch, three.into]
  simp [Reading.val (readsField two.ahead), setSps, fieldsWidth, fieldWidth]

end

end Sys2Proof.Machine

namespace Sys2Proof.Machine

/-! ### The VUI's groups, from one reading to the next -/

section
variable {s t u : State} {done todo : Fields}

/-- No aspect ratio (R181). -/
theorem Reading.aspectAbsent (h : Reading s done ((.f, 0) :: todo) t u) :
    Reading s (done ++ [(.f, 0)]) todo (vuiAspectRatio t)
      { u with vui := { u.vui with aspectRatioInfoPresentFlag := false } } :=
  ((h.seq _).nextVui _).skipVui (·.aspectRatioInfoPresentFlag) (by nofun)

/-- The extended IDC: width and height are in the stream (R181). -/
theorem Reading.sarExtended {width height : Nat} (h : Reading s done ((.u 16, width) :: (.u 16, height) :: todo) t u)
    (hx : u.vui.aspectRatioIdc = u.params.extendedSar) :
    Reading s (done ++ [(.u 16, width), (.u 16, height)]) todo (readSar t)
      { u with vui := { u.vui with sarWidth := BitVec.ofNat 16 width, sarHeight := BitVec.ofNat 16 height } } := by
  rw [readSar, if_pos (by rw [h.vuiOf, h.paramsOf]; exact hx)]
  exact ((h.nextVui _).nextVui _).cast (by simp) (by simp [setVui, BitVec.setWidth_ofNat_of_le])

/-- Another IDC: width and height are looked up (R181). -/
theorem Reading.sarLookedUp {width height : Nat} (h : Reading s done todo t u)
    (hx : u.vui.aspectRatioIdc ≠ u.params.extendedSar)
    (hl : lookupSar u.params u.vui.aspectRatioIdc = some (width, height)) :
    Reading s done todo (readSar t)
      { u with vui := { u.vui with sarWidth := BitVec.ofNat 16 width, sarHeight := BitVec.ofNat 16 height } } := by
  have found : applySarLookup t =
      setVui { u.vui with sarWidth := BitVec.ofNat 16 width, sarHeight := BitVec.ofNat 16 height } t := by
    rw [applySarLookup, h.vuiOf, h.paramsOf, hl]
  rw [readSar, if_neg (by rw [h.vuiOf, h.paramsOf]; exact hx), found]
  exact ⟨by rw [ReadsInto, h.into]; rfl, h.ahead.congr rfl rfl rfl rfl⟩

/-- An aspect ratio with the extended IDC (R181). -/
theorem Reading.aspectExtended {idc width height : Nat}
    (h : Reading s done ((.f, 1) :: (.u 8, idc) :: (.u 16, width) :: (.u 16, height) :: todo) t u)
    (hx : BitVec.ofNat 8 idc = u.params.extendedSar) :
    Reading s (done ++ [(.f, 1), (.u 8, idc), (.u 16, width), (.u 16, height)]) todo (vuiAspectRatio t)
      { u with vui := { u.vui with
          aspectRatioInfoPresentFlag := true, aspectRatioIdc := BitVec.ofNat 8 idc
          sarWidth := BitVec.ofNat 16 width, sarHeight := BitVec.ofNat 16 height } } :=
  ((h.seq _).nextVui _).takeVui (·.aspectRatioInfoPresentFlag) rfl fun read =>
    ((read.nextVui _).sarExtended (by simpa [setVui, BitVec.setWidth_ofNat_of_le] using hx)).cast (by simp)
      (by simp [setVui, BitVec.setWidth_ofNat_of_le])

/-- An aspect ratio that is looked up (R181). -/
theorem Reading.aspectLookedUp {idc width height : Nat} (h : Reading s done ((.f, 1) :: (.u 8, idc) :: todo) t u)
    (hx : BitVec.ofNat 8 idc ≠ u.params.extendedSar)
    (hl : lookupSar u.params (BitVec.ofNat 8 idc) = some (width, height)) :
    Reading s (done ++ [(.f, 1), (.u 8, idc)]) todo (vuiAspectRatio t)
      { u with vui := { u.vui with
          aspectRatioInfoPresentFlag := true, aspectRatioIdc := BitVec.ofNat 8 idc
          sarWidth := BitVec.ofNat 16 width, sarHeight := BitVec.ofNat 16 height } } :=
  ((h.seq _).nextVui _).takeVui (·.aspectRatioInfoPresentFlag) rfl fun read =>
    ((read.nextVui _).sarLookedUp (by simpa [setVui, BitVec.setWidth_ofNat_of_le] using hx)
      (by simpa [setVui, BitVec.setWidth_ofNat_of_le] using hl)).cast (by simp)
      (by simp [setVui, BitVec.setWidth_ofNat_of_le])

/-- No overscan information (R182). -/
theorem Reading.overscanAbsent (h : Reading s done ((.f, 0) :: todo) t u) :
    Reading s (done ++ [(.f, 0)]) todo (vuiOverscan t)
      { u with vui := { u.vui with overscanInfoPresentFlag := false } } :=
  ((h.seq _).nextVui _).skipVui (·.overscanInfoPresentFlag) (by nofun)

/-- Overscan (R182). -/
theorem Reading.overscan {appropriate : Bool} (h : Reading s done ((.f, 1) :: (.f, appropriate.toNat) :: todo) t u) :
    Reading s (done ++ [(.f, 1), (.f, appropriate.toNat)]) todo (vuiOverscan t)
      { u with vui := { u.vui with overscanInfoPresentFlag := true, overscanAppropriateFlag := appropriate } } :=
  ((h.seq _).nextVui _).takeVui (·.overscanInfoPresentFlag) rfl fun read =>
    (read.nextVui _).cast (by simp) (by simp [setVui])

/-- No video signal type (R183). -/
theorem Reading.signalAbsent (h : Reading s done ((.f, 0) :: todo) t u) :
    Reading s (done ++ [(.f, 0)]) todo (vuiVideoSignal t)
      { u with vui := { u.vui with videoSignalTypePresentFlag := false } } :=
  ((h.seq _).nextVui _).skipVui (·.videoSignalTypePresentFlag) (by nofun)

/-- A video signal type without a colour description (R183). -/
theorem Reading.signal {format : Nat} {range : Bool}
    (h : Reading s done ((.f, 1) :: (.u 3, format) :: (.f, range.toNat) :: (.f, 0) :: todo) t u) :
    Reading s (done ++ [(.f, 1), (.u 3, format), (.f, range.toNat), (.f, 0)]) todo (vuiVideoSignal t)
      { u with vui := { u.vui with
          videoSignalTypePresentFlag := true, videoFormat := BitVec.ofNat 3 format, videoFullRangeFlag := range
          colourDescriptionPresentFlag := false } } :=
  ((h.seq _).nextVui _).takeVui (·.videoSignalTypePresentFlag) rfl fun read =>
    (((read.nextVui _).nextVui _).nextVui _ |>.skipVui (·.colourDescriptionPresentFlag) (by nofun)).cast (by simp)
      (by simp [setVui, BitVec.setWidth_ofNat_of_le])

/-- A video signal type with a colour description (R183). -/
theorem Reading.signal_colour {format primaries transfer matrix : Nat} {range : Bool}
    (h : Reading s done ((.f, 1) :: (.u 3, format) :: (.f, range.toNat) :: (.f, 1) :: (.u 8, primaries) ::
      (.u 8, transfer) :: (.u 8, matrix) :: todo) t u) :
    Reading s (done ++ [(.f, 1), (.u 3, format), (.f, range.toNat), (.f, 1), (.u 8, primaries), (.u 8, transfer),
        (.u 8, matrix)]) todo (vuiVideoSignal t)
      { u with vui := { u.vui with
          videoSignalTypePresentFlag := true, videoFormat := BitVec.ofNat 3 format, videoFullRangeFlag := range
          colourDescriptionPresentFlag := true, colourPrimaries := BitVec.ofNat 8 primaries
          transferCharacteristics := BitVec.ofNat 8 transfer, matrixCoeffs := BitVec.ofNat 8 matrix } } :=
  ((h.seq _).nextVui _).takeVui (·.videoSignalTypePresentFlag) rfl fun read =>
    (((read.nextVui _).nextVui _).nextVui _).takeVui (·.colourDescriptionPresentFlag) rfl fun colour =>
      (((colour.nextVui _).nextVui _).nextVui _).cast (by simp)
        (by simp [setVui, BitVec.setWidth_ofNat_of_le])

/-- No chroma sample location (R184). -/
theorem Reading.chromaAbsent (h : Reading s done ((.f, 0) :: todo) t u) :
    Reading s (done ++ [(.f, 0)]) todo (vuiChromaLocation t)
      { u with vui := { u.vui with chromaLocInfoPresentFlag := false } } :=
  ((h.seq _).nextVui _).skipVui (·.chromaLocInfoPresentFlag) (by nofun)

/-- Chroma sample location (R184). -/
theorem Reading.chroma {top bottom : Nat} (h : Reading s done ((.f, 1) :: (.ue, top) :: (.ue, bottom) :: todo) t u) :
    Reading s (done ++ [(.f, 1), (.ue, top), (.ue, bottom)]) todo (vuiChromaLocation t)
      { u with vui := { u.vui with
          chromaLocInfoPresentFlag := true, chromaSampleLocTypeTopField := BitVec.ofNat 64 top
          chromaSampleLocTypeBottomField := BitVec.ofNat 64 bottom } } :=
  ((h.seq _).nextVui _).takeVui (·.chromaLocInfoPresentFlag) rfl fun read =>
    ((read.nextVui _).nextVui _).cast (by simp) (by simp [setVui])

/-- The neutral-chroma, field and frame flags (R185). -/
theorem Reading.threeFlags {neutral field frame : Bool}
    (h : Reading s done ((.f, neutral.toNat) :: (.f, field.toNat) :: (.f, frame.toNat) :: todo) t u) :
    Reading s (done ++ [(.f, neutral.toNat), (.f, field.toNat), (.f, frame.toNat)]) todo (vuiThreeFlags t)
      { u with vui := { u.vui with
          neutralChromaIndicationFlag := neutral, fieldSeqFlag := field, frameFieldInfoPresentFlag := frame } } :=
  ((((h.seq (.vui .threeFlags)).nextVui _).nextVui _).nextVui _).cast (by simp) (by simp [setVui])

/-- No default display window (R186). -/
theorem Reading.displayAbsent (h : Reading s done ((.f, 0) :: todo) t u) :
    Reading s (done ++ [(.f, 0)]) todo (vuiDisplayWindow t)
      { u with vui := { u.vui with defaultDisplayWindowFlag := false } } :=
  ((h.seq _).nextVui _).skipVui (·.defaultDisplayWindowFlag) (by nofun)

/-- The default display window (R186). -/
theorem Reading.display {left right top bottom : Nat}
    (h : Reading s done ((.f, 1) :: (.ue, left) :: (.ue, right) :: (.ue, top) :: (.ue, bottom) :: todo) t u) :
    Reading s (done ++ [(.f, 1), (.ue, left), (.ue, right), (.ue, top), (.ue, bottom)]) todo (vuiDisplayWindow t)
      { u with vui := { u.vui with
          defaultDisplayWindowFlag := true, defDispWinLeftOffset := BitVec.ofNat 64 left
          defDispWinRightOffset := BitVec.ofNat 64 right, defDispWinTopOffset := BitVec.ofNat 64 top
          defDispWinBottomOffset := BitVec.ofNat 64 bottom } } :=
  ((h.seq _).nextVui _).takeVui (·.defaultDisplayWindowFlag) rfl fun read =>
    ((((read.nextVui _).nextVui _).nextVui _).nextVui _).cast (by simp) (by simp [setVui])

/-- POC not proportional to timing (R188). -/
theorem Reading.pocAbsent (h : Reading s done ((.f, 0) :: todo) t u) :
    Reading s (done ++ [(.f, 0)]) todo (vuiPocProportional t)
      { u with vui := { u.vui with pocProportionalToTimingFlag := false } } :=
  ((h.seq _).nextVui _).skipVui (·.pocProportionalToTimingFlag) (by nofun)

/-- POC proportional to timing (R188). -/
theorem Reading.poc {num : Nat} (h : Reading s done ((.f, 1) :: (.ue, num) :: todo) t u) :
    Reading s (done ++ [(.f, 1), (.ue, num)]) todo (vuiPocProportional t)
      { u with vui := { u.vui with
          pocProportionalToTimingFlag := true, numTicksPocDiffOneMinus1 := BitVec.ofNat 64 num } } :=
  ((h.seq _).nextVui _).takeVui (·.pocProportionalToTimingFlag) rfl fun read =>
    (read.nextVui _).cast (by simp) (by simp [setVui])

/-- The HRD flag (R189). -/
theorem Reading.hrd {flag : Bool} (h : Reading s done ((.f, flag.toNat) :: todo) t u) :
    Reading s (done ++ [(.f, flag.toNat)]) todo (vuiHrdFlag t)
      { u with vui := { u.vui with hrdParametersPresentFlag := flag } } :=
  ((h.seq (.vui .hrd)).nextVui _).cast rfl (by simp [setVui])

/-- No timing info (R187). -/
theorem Reading.timingAbsent (h : Reading s done ((.f, 0) :: todo) t u) :
    Reading s (done ++ [(.f, 0)]) todo (vuiTiming t)
      { u with vui := { u.vui with timingInfoPresentFlag := false } } :=
  ((h.seq _).nextVui _).skipVui (·.timingInfoPresentFlag) (by nofun)

/-- Timing info, the POC flag 0 (R187 to R189). -/
theorem Reading.timing {tick scale : Nat} {hrd : Bool}
    (h : Reading s done ((.f, 1) :: (.u 32, tick) :: (.u 32, scale) :: (.f, 0) :: (.f, hrd.toNat) :: todo) t u) :
    Reading s (done ++ [(.f, 1), (.u 32, tick), (.u 32, scale), (.f, 0), (.f, hrd.toNat)]) todo (vuiTiming t)
      { u with vui := { u.vui with
          timingInfoPresentFlag := true, numUnitsInTick := BitVec.ofNat 32 tick, timeScale := BitVec.ofNat 32 scale
          pocProportionalToTimingFlag := false, hrdParametersPresentFlag := hrd } } :=
  ((h.seq _).nextVui _).takeVui (·.timingInfoPresentFlag) rfl fun read =>
    ((read.nextVui _).nextVui _).pocAbsent.hrd.cast (by simp) (by simp [setVui, BitVec.setWidth_ofNat_of_le])

/-- Timing info, the POC flag 1 (R187 to R189). -/
theorem Reading.timing_poc {tick scale num : Nat} {hrd : Bool}
    (h : Reading s done ((.f, 1) :: (.u 32, tick) :: (.u 32, scale) :: (.f, 1) :: (.ue, num) :: (.f, hrd.toNat) :: todo)
      t u) :
    Reading s (done ++ [(.f, 1), (.u 32, tick), (.u 32, scale), (.f, 1), (.ue, num), (.f, hrd.toNat)]) todo
      (vuiTiming t)
      { u with vui := { u.vui with
          timingInfoPresentFlag := true, numUnitsInTick := BitVec.ofNat 32 tick, timeScale := BitVec.ofNat 32 scale
          pocProportionalToTimingFlag := true, numTicksPocDiffOneMinus1 := BitVec.ofNat 64 num
          hrdParametersPresentFlag := hrd } } :=
  ((h.seq _).nextVui _).takeVui (·.timingInfoPresentFlag) rfl fun read =>
    ((read.nextVui _).nextVui _).poc.hrd.cast (by simp) (by simp [setVui, BitVec.setWidth_ofNat_of_le])

/-- No bitstream restrictions (R190). -/
theorem Reading.restrictionsAbsent (h : Reading s done ((.f, 0) :: todo) t u) :
    Reading s (done ++ [(.f, 0)]) todo (vuiRestrictionFlag t)
      { u with vui := { u.vui with bitstreamRestrictionFlag := false } } :=
  ((h.seq _).nextVui _).skipVui (·.bitstreamRestrictionFlag) (by nofun)

/-- The bitstream restrictions (R190, R191). -/
theorem Reading.restrictions {tiles vectors lists : Bool} {seg bytes bits horizontal vertical : Nat}
    (h : Reading s done ((.f, 1) :: (.f, tiles.toNat) :: (.f, vectors.toNat) :: (.f, lists.toNat) :: (.ue, seg) ::
      (.ue, bytes) :: (.ue, bits) :: (.ue, horizontal) :: (.ue, vertical) :: todo) t u) :
    Reading s (done ++ [(.f, 1), (.f, tiles.toNat), (.f, vectors.toNat), (.f, lists.toNat), (.ue, seg), (.ue, bytes),
        (.ue, bits), (.ue, horizontal), (.ue, vertical)]) todo (vuiRestrictionFlag t)
      { u with
        vui := { u.vui with bitstreamRestrictionFlag := true }
        bsr := {
          tilesFixedStructureFlag := tiles
          motionVectorsOverPicBoundariesFlag := vectors
          restrictedRefPicListsFlag := lists
          minSpatialSegmentationIdc := BitVec.ofNat 64 seg
          maxBytesPerPicDenom := BitVec.ofNat 64 bytes
          maxBitsPerMinCuDenom := BitVec.ofNat 64 bits
          log2MaxMvLengthHorizontal := BitVec.ofNat 64 horizontal
          log2MaxMvLengthVertical := BitVec.ofNat 64 vertical } } :=
  ((h.seq _).nextVui _).takeVui (·.bitstreamRestrictionFlag) rfl fun read =>
    ((((((((read.seq _).nextBsr _).nextBsr _).nextBsr _).nextBsr _).nextBsr _).nextBsr _).nextBsr _).nextBsr _ |>.cast
      (by simp) (by simp [setVui, setBsr])

end

end Sys2Proof.Machine

namespace Sys2Proof.Machine

/-- Step Q7 where nothing follows its fields. -/
theorem seqQ7_readsInto {s : State} {present : Bool} {es : List (Nat × Nat × Nat)}
    (hes : es.length = if present then s.sps.maxSubLayersMinus1.toNat + 1 else 1)
    (h : StreamHolds s ((.f, present.toNat) :: es.flatMap sloiFields)) :
    ReadsInto ((.f, present.toNat) :: es.flatMap sloiFields) s (seqQ7 s)
      { s with sps := { s.sps with sloiPresentFlag := present }, sloi := s.sloi ++ es.map storedSloi } := by
  rw [← List.append_nil (es.flatMap sloiFields)] at h
  exact ((Reading.start h).q7 hes).finish rfl

/-- Step Q12 where nothing follows its fields. -/
theorem seqQ12_readsInto {s : State} {n : Nat} {es : List (Nat × Bool)}
    (hn : n = s.sps.log2MaxPocLsbMinus4.toNat + 4) (h64 : n ≤ 64)
    (h : StreamHolds s ((.f, 1) :: (.ue, es.length) :: es.flatMap (longTermFields n))) :
    ReadsInto ((.f, 1) :: (.ue, es.length) :: es.flatMap (longTermFields n)) s (seqQ12 s)
      { s with sps := { s.sps with longTermRefPicsPresentFlag := true } } := by
  rw [← List.append_nil (es.flatMap (longTermFields n))] at h
  exact ((Reading.start h).q12_entries hn h64).finish rfl

/-- Settles O60: each clause is the lemma of its step or group, read from the start. -/
theorem streamFieldsInOrder : Obligations.StreamFieldsInOrder := by
  refine ⟨?q4, ?q4_plane, ?q5, ?q5_window, ?q6, ?q7, ?q8, ?q9, ?q9_default, ?q9_data, ?q10, ?q10_pcm, ?q11_count,
    ?q11_entry, ?q11_end, ?q12, ?q12_entries, ?q13, ?q13_vui, ?aspectAbsent, ?aspectExtended, ?aspectLookedUp,
    ?overscanAbsent, ?overscan, ?signalAbsent, ?signal, ?signal_colour, ?chromaAbsent, ?chroma, ?threeFlags,
    ?displayAbsent, ?display, ?timingAbsent, ?timing, ?timing_poc, ?restrictionsAbsent, ?restrictions⟩
  case q4 => exact fun _ _ _ hidc h => ((Reading.start h).q4 hidc).finish rfl
  case q4_plane => exact fun _ _ _ h => (Reading.start h).q4_plane.finish rfl
  case q5 => exact fun _ _ _ h => (Reading.start h).q5.finish rfl
  case q5_window => exact fun _ _ _ _ _ _ _ h => (Reading.start h).q5_window.finish rfl
  case q6 => exact fun _ _ _ _ h => (Reading.start h).q6.finish rfl
  case q7 =>
    rintro s present es fs hes rfl h
    exact seqQ7_readsInto hes h
  case q8 => exact fun _ _ _ _ _ _ _ h => (Reading.start h).q8.finish rfl
  case q9 => exact fun _ h => (Reading.start h).q9.finish rfl
  case q9_default => exact fun _ h => (Reading.start h).q9_default.finish rfl
  case q9_data => exact fun _ => seqQ9_of_data
  case q10 => exact fun _ _ _ h => (Reading.start h).q10.finish rfl
  case q10_pcm =>
    rintro s amp sao loop luma chroma cbMin cbDiff fs rfl h
    exact (Reading.start h).q10_pcm.finish rfl
  case q11_count => exact fun _ _ => seqQ11_of_count
  case q11_entry => exact fun _ _ _ _ _ => rpsLoop_succ_of_entry
  case q11_end => exact fun _ _ => rfl
  case q12 => exact fun _ h => (Reading.start h).q12.finish rfl
  case q12_entries =>
    rintro s n es fs hn h64 rfl h
    exact seqQ12_readsInto hn h64 h
  case q13 => exact fun _ _ _ h => (Reading.start h).q13.finish rfl
  case q13_vui => exact fun _ _ _ => seqQ13_of_vui
  case aspectAbsent => exact fun _ h => (Reading.start h).aspectAbsent.finish rfl
  case aspectExtended => exact fun _ _ _ _ hx h => ((Reading.start h).aspectExtended hx).finish rfl
  case aspectLookedUp => exact fun _ _ _ _ hx hl h => ((Reading.start h).aspectLookedUp hx hl).finish rfl
  case overscanAbsent => exact fun _ h => (Reading.start h).overscanAbsent.finish rfl
  case overscan => exact fun _ _ h => (Reading.start h).overscan.finish rfl
  case signalAbsent => exact fun _ h => (Reading.start h).signalAbsent.finish rfl
  case signal => exact fun _ _ _ h => (Reading.start h).signal.finish rfl
  case signal_colour =>
    rintro s format primaries transfer matrix range fs rfl h
    exact (Reading.start h).signal_colour.finish rfl
  case chromaAbsent => exact fun _ h => (Reading.start h).chromaAbsent.finish rfl
  case chroma => exact fun _ _ _ h => (Reading.start h).chroma.finish rfl
  case threeFlags => exact fun _ _ _ _ h => (Reading.start h).threeFlags.finish rfl
  case displayAbsent => exact fun _ h => (Reading.start h).displayAbsent.finish rfl
  case display => exact fun _ _ _ _ _ h => (Reading.start h).display.finish rfl
  case timingAbsent => exact fun _ h => (Reading.start h).timingAbsent.finish rfl
  case timing => exact fun _ _ _ _ h => (Reading.start h).timing.finish rfl
  case timing_poc =>
    rintro s tick scale num hrd fs rfl h
    exact (Reading.start h).timing_poc.finish rfl
  case restrictionsAbsent => exact fun _ h => (Reading.start h).restrictionsAbsent.finish rfl
  case restrictions =>
    rintro s tiles vectors lists seg bytes bits horizontal vertical fs rfl h
    exact (Reading.start h).restrictions.finish rfl

end Sys2Proof.Machine

namespace Sys2Proof.Machine

/-! ### Where a DSPS ends, by the step that ends it (R206, R210) -/

section
variable {s a b c u : State}

theorem decodeSps_of_q1_stop (h1 : seqQ1 (startDsps s) = .stop u) : decodeSps s = finishDsps u := by
  rw [decodeSps, walkSps, h1]
  rfl

theorem decodeSps_of_q3_stop (h1 : seqQ1 (startDsps s) = .go a) (h3 : seqQ3 (seqQ2 a) = .stop u) :
    decodeSps s = finishDsps u := by
  rw [decodeSps, walkSps, h1, andThen, h3]
  rfl

theorem decodeSps_of_q11_stop (h1 : seqQ1 (startDsps s) = .go a) (h3 : seqQ3 (seqQ2 a) = .go b)
    (h11 : seqQ11 (seqQ4toQ10 b) = .stop u) : decodeSps s = finishDsps u := by
  rw [decodeSps, walkSps, h1, andThen, h3, andThen, h11]
  rfl

theorem decodeSps_of_q11_go (h1 : seqQ1 (startDsps s) = .go a) (h3 : seqQ3 (seqQ2 a) = .go b)
    (h11 : seqQ11 (seqQ4toQ10 b) = .go c) : decodeSps s = finishDsps (seqQ14 (seqQ13 (seqQ12 c))) := by
  rw [decodeSps, walkSps, h1, andThen, h3, andThen, h11]
  rfl

end

/-! ### Step Q1 -/

/-- The first two bytes as one number (R41, R127). -/
theorem ofNat_streamBits_header (m : Memory) : BitVec.ofNat 16 (streamBits m 0 16) = memRead m 0 ++ memRead m 1 := by
  have low := (memRead m 1).isLt
  have bits : streamBits m 0 16 = (memRead m 0 ++ memRead m 1).toNat := by
    rw [streamBits_add m 0 8 8, streamBits_byte m 0, streamBits_byte m 1, BitVec.toNat_append,
      ← Nat.shiftLeft_add_eq_or_of_lt low, Nat.shiftLeft_eq]
  rw [bits, BitVec.ofNat_toNat, BitVec.setWidth_eq]

/-- The header goes into its register and into the temporary that the unit type is taken from (R127). -/
theorem readNalHeader_eq (s : State) : readNalHeader s =
    { readField (.u 16) (setSeq .q1 s) with
      sps := { s.sps with nalHdr := (readField (.u 16) (setSeq .q1 s)).val.setWidth 16 }
      temps := { s.temps with hdr := (readField (.u 16) (setSeq .q1 s)).val.setWidth 16 } } := by
  have parts : (readField (.u 16) (setSeq .q1 s)).sps = s.sps ∧ (readField (.u 16) (setSeq .q1 s)).temps = s.temps :=
    ⟨readField_sps _ _, readField_temps _ _⟩
  rw [← parts.1, ← parts.2]
  rfl

/-- The unit type is that of the header's first byte (R73, R127). -/
theorem isSpsUnit_iff (s : State) : isSpsUnit (readNalHeader s) = true ↔
    classify s.params ((readNalHeader s).sps.nalHdr.extractLsb' 8 8) = s.params.spsTag := by
  have params : (readNalHeader s).params = s.params := (readNalHeader_moves s).params
  have header : (readNalHeader s).temps.hdr = (readNalHeader s).sps.nalHdr := by rw [readNalHeader_eq]
  rw [isSpsUnit, decide_eq_true_eq, params, header]

section
variable {s t u : State} {done todo : Fields}

theorem Reading.header {hdr : Nat} (h : Reading s done ((.u 16, hdr) :: todo) t u) :
    Reading s (done ++ [(.u 16, hdr)]) todo (readNalHeader t)
      { u with sps := { u.sps with nalHdr := BitVec.ofNat 16 hdr } } := by
  have read := (h.seq .q1).nextField
  have val : (readField (.u 16) (setSeq .q1 t)).val.setWidth 16 = BitVec.ofNat 16 hdr := by
    rw [Reading.val (readsField (h.seq .q1).ahead), BitVec.setWidth_ofNat_of_le (by decide)]
  rw [readNalHeader_eq, val, h.spsOf]
  refine ⟨?_, read.ahead.congr rfl rfl rfl rfl⟩
  rw [ReadsInto, read.into]

end

/-- Two bytes of buffer hold a header. -/
theorem streamHolds_header {s : State} (h : 2 ≤ s.len) :
    StreamHolds (startDsps s) [(.u 16, streamBits s.buf 0 16)] := by
  refine ⟨rfl, ?_, by simp [fieldsAt, fieldAt]⟩
  simp [fieldsWidth, fieldWidth, streamEnd]
  omega

/-- Step Q1 where the header is in the buffer (R127). -/
theorem reading_header {s : State} (h : 2 ≤ s.len) :
    Reading (startDsps s) [(.u 16, streamBits s.buf 0 16)] [] (readNalHeader (startDsps s))
      { startDsps s with sps := { nalHdr := memRead s.buf 0 ++ memRead s.buf 1 } } :=
  (Reading.start (streamHolds_header h)).header.cast rfl (by rw [ofNat_streamBits_header]; rfl)

/-- With a whole header the unit type is that of byte 0. -/
theorem isSpsUnit_of_header {s : State} (h : 2 ≤ s.len) : isSpsUnit (readNalHeader (startDsps s)) = true ↔
    classify s.params (memRead s.buf 0) = s.params.spsTag := by
  rw [isSpsUnit_iff, (reading_header h).spsOf]
  dsimp only
  rw [BitVec.extractLsb'_append_eq_left]
  rfl

/-- Settles O38: the header is read whole, and the walk stops there. -/
theorem wrongUnitTypeStopsAtOnce : Obligations.WrongUnitTypeStopsAtOnce := by
  intro s hlen hclass
  have other := Bool.eq_false_of_not_eq_true (mt (isSpsUnit_of_header hlen).1 hclass)
  refine ⟨_, exec_dsps s, ?_⟩
  rw [decodeSps_of_q1_stop (seqQ1_of_other _ other), (reading_header hlen).into]
  exact ⟨rfl, rfl, rfl, rfl, rfl, rfl, rfl, rfl, rfl, rfl, rfl⟩

/-- Settles O39: the header's read fails, and the header is 0. -/
theorem truncatedHeader : Obligations.TruncatedHeader := by
  intro s hlen hclass
  have read : readField (.u 16) (setSeq .q1 (startDsps s)) = { startDsps s with err := .truncated, val := 0 } :=
    readBits_truncated rfl (by simp [streamEnd]; omega)
  have header : readNalHeader (startDsps s) = { startDsps s with err := .truncated, val := 0 } := by
    rw [readNalHeader_eq, read]
    rfl
  have other : isSpsUnit (readNalHeader (startDsps s)) = false := by
    refine Bool.eq_false_of_not_eq_true (mt (isSpsUnit_iff _).1 ?_)
    have zero : BitVec.extractLsb' 8 8 (0 : BitVec 16) = 0 := rfl
    rw [header]
    exact zero.symm ▸ hclass
  refine ⟨_, exec_dsps s, ?_⟩
  rw [decodeSps_of_q1_stop (seqQ1_of_other _ other), header]
  exact ⟨rfl, rfl, rfl, rfl, rfl, rfl, rfl, rfl, rfl, rfl, rfl⟩

end Sys2Proof.Machine

namespace Sys2Proof.Machine

/-! ### Steps Q1 to Q3 -/

section
variable {s t u : State} {done todo : Fields}

/-- Step Q2 (R128). -/
theorem Reading.q2 {vps layers : Nat} {nesting : Bool}
    (h : Reading s done ((.u 4, vps) :: (.u 3, layers) :: (.f, nesting.toNat) :: todo) t u) :
    Reading s (done ++ [(.u 4, vps), (.u 3, layers), (.f, nesting.toNat)]) todo (seqQ2 t)
      { u with sps := { u.sps with
          vpsId := BitVec.ofNat 4 vps, maxSubLayersMinus1 := BitVec.ofNat 3 layers
          temporalIdNestingFlag := nesting } } :=
  ((((h.seq .q2).nextSps _).nextSps _).nextSps _).cast (by simp) (by simp [setSps, BitVec.setWidth_ofNat_of_le])

/-- The ProfileTierLevel (R129). -/
theorem Reading.ptl {space idc compat constraint level : Nat} {tier : Bool}
    (h : Reading s done ((.u 2, space) :: (.f, tier.toNat) :: (.u 5, idc) :: (.u 32, compat) :: (.u 48, constraint) ::
      (.u 8, level) :: todo) t u) :
    Reading s (done ++ [(.u 2, space), (.f, tier.toNat), (.u 5, idc), (.u 32, compat), (.u 48, constraint),
        (.u 8, level)]) todo (readPtl t)
      { u with sps := { u.sps with ptl := {
          profileSpace := BitVec.ofNat 2 space
          tierFlag := tier
          profileIdc := BitVec.ofNat 5 idc
          compatFlags := BitVec.ofNat 32 compat
          constraintFlags := BitVec.ofNat 48 constraint
          levelIdc := BitVec.ofNat 8 level } } } :=
  (((((((h.seq .q3).nextSps _).nextSps _).nextSps _).nextSps _).nextSps _).nextSps _).cast (by simp)
    (by simp [setSps, BitVec.setWidth_ofNat_of_le])

/-- Steps Q1 to Q3, with `layers` in `maxSubLayersMinus1` (R127 to R129). -/
theorem Reading.q1toQ3 {hdr vps layers space idc compat constraint level : Nat} {nesting tier : Bool}
    (h : Reading s done ((.u 16, hdr) :: (.u 4, vps) :: (.u 3, layers) :: (.f, nesting.toNat) :: (.u 2, space) ::
      (.f, tier.toNat) :: (.u 5, idc) :: (.u 32, compat) :: (.u 48, constraint) :: (.u 8, level) :: todo) t u) :
    Reading s (done ++ [(.u 16, hdr), (.u 4, vps), (.u 3, layers), (.f, nesting.toNat), (.u 2, space),
        (.f, tier.toNat), (.u 5, idc), (.u 32, compat), (.u 48, constraint), (.u 8, level)]) todo (afterPtl t)
      { u with
        recValid := true
        sps := { u.sps with
          nalHdr := BitVec.ofNat 16 hdr, vpsId := BitVec.ofNat 4 vps, maxSubLayersMinus1 := BitVec.ofNat 3 layers
          temporalIdNestingFlag := nesting
          ptl := {
            profileSpace := BitVec.ofNat 2 space
            tierFlag := tier
            profileIdc := BitVec.ofNat 5 idc
            compatFlags := BitVec.ofNat 32 compat
            constraintFlags := BitVec.ofNat 48 constraint
            levelIdc := BitVec.ofNat 8 level } } } :=
  (h.header.store (setRecValid true)).q2.ptl.cast (by simp) rfl

end

/-- A walk that comes to its end: the unit is an SPS with one sub-layer, and step Q11 goes on (R127, R130, R141). -/
theorem decodeSps_of_sps {s x : State} (hlen : 2 ≤ s.len)
    (hclass : classify s.params (memRead s.buf 0) = s.params.spsTag)
    (hlayers : (afterPtl (startDsps s)).sps.maxSubLayersMinus1 = 0)
    (h11 : seqQ11 (seqQ4toQ10 (afterPtl (startDsps s))) = .go x) :
    decodeSps s = finishDsps (seqQ14 (seqQ13 (seqQ12 x))) :=
  decodeSps_of_q11_go (seqQ1_of_sps _ ((isSpsUnit_of_header hlen).2 hclass)) (seqQ3_of_zero _ hlayers) h11

/-- The fields of 15 bytes of buffer, up to the end of the ProfileTierLevel (R127 to R129). -/
theorem streamHolds_ptl {s : State} (h : 15 ≤ s.len) :
    StreamHolds (startDsps s) [(.u 16, streamBits s.buf 0 16), (.u 4, streamBits s.buf 16 4),
      (.u 3, streamBits s.buf 20 3), (.f, (streamBit s.buf 23).toNat), (.u 2, streamBits s.buf 24 2),
      (.f, (streamBit s.buf 26).toNat), (.u 5, streamBits s.buf 27 5), (.u 32, streamBits s.buf 32 32),
      (.u 48, streamBits s.buf 64 48), (.u 8, streamBits s.buf 112 8)] := by
  refine ⟨rfl, ?_, by simp [fieldsAt, fieldAt, fieldWidth]⟩
  simp [fieldsWidth, fieldWidth, streamEnd]
  omega

/-- Settles O40: the walk reads up to the ProfileTierLevel and stops there. -/
theorem subLayerExit : Obligations.SubLayerExit := by
  intro s hlen hclass hlayers
  have read := (Reading.start (streamHolds_ptl hlen)).q1toQ3
  have layers : (afterPtl (startDsps s)).sps.maxSubLayersMinus1 ≠ 0 := by
    rw [read.spsOf]
    intro zero
    have value := congrArg BitVec.toNat zero
    rw [BitVec.toNat_ofNat, Nat.mod_eq_of_lt (streamBits_lt _ _ 3)] at value
    exact hlayers value
  have q1 := seqQ1_of_sps _ ((isSpsUnit_of_header (by omega)).2 hclass)
  refine ⟨_, exec_dsps s, ?_⟩
  rw [decodeSps_of_q3_stop q1 (seqQ3_of_ne_zero _ layers),
    show readPtl (seqQ2 (afterQ1 (startDsps s))) = _ from read.into, ofNat_streamBits_header]
  exact ⟨rfl, rfl, rfl, rfl, rfl, rfl, rfl, rfl, rfl, rfl, rfl⟩

end Sys2Proof.Machine

namespace Sys2Proof.Machine

/-! ### A minimal SPS -/

/-- The conformance window in the stream: its flag, and under it the four offsets (R132). -/
def cropFields : Option (Nat × Nat × Nat × Nat) → Fields
  | none => [(.f, 0)]
  | some (left, right, top, bottom) => [(.f, 1), (.ue, left), (.ue, right), (.ue, top), (.ue, bottom)]

/-- What it is stored as, over the window `w` (R132). -/
def storedCrop (w : ConfWindow) : Option (Nat × Nat × Nat × Nat) → ConfWindow
  | none => w
  | some (left, right, top, bottom) =>
    { left := BitVec.ofNat 64 left, right := BitVec.ofNat 64 right, top := BitVec.ofNat 64 top,
      bottom := BitVec.ofNat 64 bottom }

section
variable {s t u : State} {done todo : Fields}

/-- Step Q5, with or without a conformance window (R132). -/
theorem Reading.q5_crop {width height : Nat} (crop : Option (Nat × Nat × Nat × Nat))
    (h : Reading s done ((.ue, width) :: (.ue, height) :: (cropFields crop ++ todo)) t u) :
    Reading s (done ++ (.ue, width) :: (.ue, height) :: cropFields crop) todo (seqQ5 t)
      { u with sps := { u.sps with
          picWidth := BitVec.ofNat 64 width, picHeight := BitVec.ofNat 64 height
          conformanceWindowFlag := crop.isSome, window := storedCrop u.sps.window crop } } := by
  cases crop with
  | none => exact h.q5
  | some offsets => exact h.q5_window

/-- Step Q7 with one sub-layer: one entry, whatever the flag (R134, R135). -/
theorem Reading.q7_one {present : Bool} {f0 f1 f2 : Nat}
    (h : Reading s done ((.f, present.toNat) :: (.ue, f0) :: (.ue, f1) :: (.ue, f2) :: todo) t u)
    (hu : u.sps.maxSubLayersMinus1 = 0) :
    Reading s (done ++ [(.f, present.toNat), (.ue, f0), (.ue, f1), (.ue, f2)]) todo (seqQ7 t)
      { u with
        sps := { u.sps with sloiPresentFlag := present }
        sloi := u.sloi ++ [⟨BitVec.ofNat 64 f0, BitVec.ofNat 64 f1, BitVec.ofNat 64 f2⟩] } :=
  Reading.q7 (es := [(f0, f1, f2)]) h (by rw [hu]; cases present <;> rfl)

/-- Step Q11 without reference picture sets (R139). -/
theorem Reading.q11_none (h : Reading s done ((.ue, 0) :: todo) t u) :
    ∃ x, seqQ11 t = .go x ∧
      Reading s (done ++ [(.ue, 0)]) todo x { u with sps := { u.sps with numShortTermRefPicSets := 0 } } := by
  have read : Reading _ _ _ (afterCount t) _ := (h.seq .q11).nextSps _
  exact ⟨afterCount t, by rw [seqQ11_eq, read.spsOf]; rfl, read⟩

end

end Sys2Proof.Machine

namespace Sys2Proof.Machine

section
variable {s t u : State} {done todo : Fields}

/-- Steps Q4 to Q6 of a minimal SPS. -/
theorem Reading.q4toQ6_minimal {id width height luma chroma poc : Nat} (crop : Option (Nat × Nat × Nat × Nat))
    (h : Reading s done ((.ue, id) :: (.ue, 1) :: (.ue, width) :: (.ue, height) :: (cropFields crop ++
      (.ue, luma) :: (.ue, chroma) :: (.ue, poc) :: todo)) t u) :
    Reading s (done ++ (.ue, id) :: (.ue, 1) :: (.ue, width) :: (.ue, height) :: (cropFields crop ++
        [(.ue, luma), (.ue, chroma), (.ue, poc)])) todo (seqQ6 (seqQ5 (seqQ4 t)))
      { u with sps := { u.sps with
          spsId := BitVec.ofNat 64 id, chromaFormatIdc := 1, picWidth := BitVec.ofNat 64 width
          picHeight := BitVec.ofNat 64 height, conformanceWindowFlag := crop.isSome
          window := storedCrop u.sps.window crop, bitDepthLumaMinus8 := BitVec.ofNat 64 luma
          bitDepthChromaMinus8 := BitVec.ofNat 64 chroma, log2MaxPocLsbMinus4 := BitVec.ofNat 64 poc } } :=
  ((h.q4 (by decide)).q5_crop crop).q6.cast (by simp) rfl

/-- Steps Q7 to Q10 of a minimal SPS. -/
theorem Reading.q7toQ10_minimal {f0 f1 f2 cbMin cbDiff tbMin tbDiff inter intra : Nat} {sloi amp sao : Bool}
    (h : Reading s done ((.f, sloi.toNat) :: (.ue, f0) :: (.ue, f1) :: (.ue, f2) :: (.ue, cbMin) :: (.ue, cbDiff) ::
      (.ue, tbMin) :: (.ue, tbDiff) :: (.ue, inter) :: (.ue, intra) :: (.f, 0) :: (.f, amp.toNat) ::
      (.f, sao.toNat) :: (.f, 0) :: todo) t u)
    (hu : u.sps.maxSubLayersMinus1 = 0) :
    Reading s (done ++ [(.f, sloi.toNat), (.ue, f0), (.ue, f1), (.ue, f2), (.ue, cbMin), (.ue, cbDiff), (.ue, tbMin),
        (.ue, tbDiff), (.ue, inter), (.ue, intra), (.f, 0), (.f, amp.toNat), (.f, sao.toNat), (.f, 0)]) todo
      (seqQ10 (seqQ9 (seqQ8 (seqQ7 t))))
      { u with
        sloi := u.sloi ++ [⟨BitVec.ofNat 64 f0, BitVec.ofNat 64 f1, BitVec.ofNat 64 f2⟩]
        sps := { u.sps with
          sloiPresentFlag := sloi, log2MinLumaCbSizeMinus3 := BitVec.ofNat 64 cbMin
          log2DiffMaxMinLumaCbSize := BitVec.ofNat 64 cbDiff, log2MinLumaTbSizeMinus2 := BitVec.ofNat 64 tbMin
          log2DiffMaxMinLumaTbSize := BitVec.ofNat 64 tbDiff, maxTransformHierarchyDepthInter := BitVec.ofNat 64 inter
          maxTransformHierarchyDepthIntra := BitVec.ofNat 64 intra, scalingListEnabledFlag := false
          ampEnabledFlag := amp, saoEnabledFlag := sao, pcmEnabledFlag := false } } :=
  (h.q7_one hu).q8.q9.q10.cast (by simp) rfl

/-- Steps Q11 to Q13 of a minimal SPS: Q11's loop has no entries, and the walk goes on. -/
theorem Reading.q11toQ13_minimal {mvp smooth : Bool}
    (h : Reading s done ((.ue, 0) :: (.f, 0) :: (.f, mvp.toNat) :: (.f, smooth.toNat) :: (.f, 0) :: todo) t u) :
    ∃ x, seqQ11 t = .go x ∧
      Reading s (done ++ [(.ue, 0), (.f, 0), (.f, mvp.toNat), (.f, smooth.toNat), (.f, 0)]) todo (seqQ13 (seqQ12 x))
        { u with sps := { u.sps with
            numShortTermRefPicSets := 0, longTermRefPicsPresentFlag := false, temporalMvpEnabledFlag := mvp
            strongIntraSmoothingEnabledFlag := smooth, vuiParametersPresentFlag := false } } := by
  obtain ⟨x, step, read⟩ := h.q11_none
  exact ⟨x, step, read.q12.q13.cast (by simp) rfl⟩

end

end Sys2Proof.Machine

namespace Sys2Proof.Machine

/-! ### An SPS header alone -/

/-- `REC.*` where only the header is set. -/
def headerOnly (hdr : BitVec 16) : SpsRecord := { nalHdr := hdr }

/-- The walk over a buffer that holds the SPS header `hdr` and nothing more, once a read has failed (R149): `layers` are
the entries of `SLOI`. -/
structure RanDry (hdr : BitVec 16) (layers : List SloiEntry) (s : State) : Prop where
  err : s.err = .truncated
  pos : s.pos = 16
  sps : s.sps = headerOnly hdr
  sloi : s.sloi = layers
  rest : (s.rps, s.vui, s.bsr, s.recValid) = ([], {}, {}, true)

section
variable {hdr : BitVec 16} {layers : List SloiEntry} {s : State} (h : RanDry hdr layers s)
include h

/-- A later read gives 0 and changes nothing (R90). -/
theorem RanDry.readField (k : FieldKind) : readField k s = { s with val := 0 } :=
  readField_latched (by rw [h.err]; nofun)

theorem RanDry.seq (q : Seq) : RanDry hdr layers (setSeq q s) := ⟨h.err, h.pos, h.sps, h.sloi, h.rest⟩

theorem RanDry.val (k : FieldKind) : (Machine.readField k s).val = 0 := by rw [h.readField]

theorem RanDry.field (k : FieldKind) : RanDry hdr layers (Machine.readField k s) := by
  rw [h.readField]
  exact ⟨h.err, h.pos, h.sps, h.sloi, h.rest⟩

theorem RanDry.note (f : Temps → Temps) : RanDry hdr layers (noteTemps f s) := ⟨h.err, h.pos, h.sps, h.sloi, h.rest⟩

theorem RanDry.push (e : SloiEntry) : RanDry hdr (layers ++ [e]) (pushSloi e s) :=
  ⟨h.err, h.pos, h.sps, by rw [pushSloi_sloi, h.sloi], h.rest⟩

/-- Where its value is stored 0 stands already. -/
theorem RanDry.spsField (k : FieldKind) {put : Word → SpsRecord → SpsRecord}
    (hput : put 0 (headerOnly hdr) = headerOnly hdr := by rfl) : RanDry hdr layers (readSps k put s) := by
  rw [readSps, h.readField]
  exact ⟨h.err, h.pos, by rw [setSps_sps, h.sps, hput], h.sloi, h.rest⟩

/-- A step that looks at the record goes no further: every flag is 0. -/
theorem RanDry.skip {a : State} (c : SpsRecord → Prop) [DecidablePred c] (hc : ¬ c (headerOnly hdr)) :
    RanDry hdr layers (if c s.sps then a else s) := by
  rwa [if_neg (by rwa [h.sps])]

theorem RanDry.ptl : RanDry hdr layers (readPtl s) :=
  ((((((h.seq .q3).spsField _).spsField _).spsField _).spsField _).spsField _).spsField _

theorem RanDry.q4 : RanDry hdr layers (seqQ4 s) :=
  (((h.seq .q4).spsField _).spsField _).skip (·.chromaFormatIdc = 3) (by nofun)

theorem RanDry.q5 : RanDry hdr layers (seqQ5 s) :=
  ((((h.seq .q5).spsField _).spsField _).spsField _).skip (·.conformanceWindowFlag) nofun

theorem RanDry.q6 : RanDry hdr layers (seqQ6 s) := (((h.seq .q6).spsField _).spsField _).spsField _

/-- A SubLayerOrderingInfo of zeros (R134). -/
theorem RanDry.sloiEntry (i : Nat) : RanDry hdr (layers ++ [⟨0, 0, 0⟩]) (readSloiEntry i s) := by
  have start := h.note fun r => { r with i := i }
  have f0 := start.field .ue
  have f1 := f0.field .ue
  simp only [readSloiEntry, start.val, f0.val, f1.val]
  exact (f1.field .ue).push _

/-- Step Q7 appends one entry of zeros (R135). -/
theorem RanDry.q7 : RanDry hdr (layers ++ [⟨0, 0, 0⟩]) (seqQ7 s) := by
  have flag := (h.seq .q7).spsField .f (put := fun v r => { r with sloiPresentFlag := isOne v })
  have once : seqQ7 s =
      readSloiEntry 0 (readSps .f (fun v r => { r with sloiPresentFlag := isOne v }) (setSeq .q7 s)) := by
    rw [seqQ7]
    simp only [flag.sps]
    rfl
  rw [once]
  exact flag.sloiEntry 0

theorem RanDry.q8 : RanDry hdr layers (seqQ8 s) :=
  ((((((h.seq .q8).spsField _).spsField _).spsField _).spsField _).spsField _).spsField _

theorem RanDry.q9 : RanDry hdr layers (seqQ9 s) := ((h.seq .q9).spsField _).skip (·.scalingListEnabledFlag) nofun

theorem RanDry.q10 : RanDry hdr layers (seqQ10 s) :=
  ((((h.seq .q10).spsField _).spsField _).spsField _).skip (·.pcmEnabledFlag) nofun

/-- Step Q11 finds a count of 0, and the walk goes on (R139). -/
theorem RanDry.q11 : ∃ x, seqQ11 s = .go x ∧ RanDry hdr layers x := by
  have count : RanDry hdr layers (afterCount s) := (h.seq .q11).spsField _
  exact ⟨afterCount s, by rw [seqQ11_eq, count.sps]; rfl, count⟩

theorem RanDry.q12 : RanDry hdr layers (seqQ12 s) := ((h.seq .q12).spsField _).skip (·.longTermRefPicsPresentFlag) nofun

theorem RanDry.q13 : RanDry hdr layers (seqQ13 s) :=
  ((((h.seq .q13).spsField _).spsField _).spsField _).skip (·.vuiParametersPresentFlag) nofun

end

/-- After the header the first read of step Q2 finds no bit (R149). -/
theorem ranDry_seqQ2 {s : State} (h : s.len = 2) :
    RanDry (memRead s.buf 0 ++ memRead s.buf 1) [] (seqQ2 (afterQ1 (startDsps s))) := by
  have header := (reading_header h.ge).store (setRecValid true)
  have a : afterQ1 (startDsps s) = _ := header.into
  have fails : readField (.u 4) (setSeq .q2 (afterQ1 (startDsps s))) =
      { setSeq .q2 (afterQ1 (startDsps s)) with err := .truncated, val := 0 } := by
    refine readBits_truncated header.ahead.1 ?_
    rw [a]
    simp [streamEnd, h, fieldsWidth, fieldWidth]
  have first : RanDry (memRead s.buf 0 ++ memRead s.buf 1) []
      (readSps (.u 4) (fun v r => { r with vpsId := v.setWidth 4 }) (setSeq .q2 (afterQ1 (startDsps s)))) := by
    rw [readSps, fails, a]
    exact ⟨rfl, rfl, rfl, rfl, rfl⟩
  exact (first.spsField _).spsField _

/-- The whole walk over a header alone (R149). -/
theorem decodeSps_of_header {s : State} (h : s.len = 2)
    (hclass : classify s.params (memRead s.buf 0) = s.params.spsTag) :
    ∃ x, RanDry (memRead s.buf 0 ++ memRead s.buf 1) [⟨0, 0, 0⟩] x ∧ decodeSps s = finishDsps (seqQ14 x) := by
  have ptl : RanDry _ _ (afterPtl (startDsps s)) := (ranDry_seqQ2 h).ptl
  obtain ⟨y, q11, dry⟩ := ptl.q4.q5.q6.q7.q8.q9.q10.q11
  exact ⟨_, dry.q12.q13, decodeSps_of_sps h.ge hclass (congrArg SpsRecord.maxSubLayersMinus1 ptl.sps) q11⟩

end Sys2Proof.Machine

namespace Sys2Proof.Machine

/-- Settles O41: over a header alone every read after it fails; a minimal SPS is read step by step. -/
theorem headerOnlyBuffer : Obligations.HeaderOnlyBuffer := by
  refine ⟨fun s hlen hclass => ?_, ?_⟩
  · obtain ⟨x, dry, stop⟩ := decodeSps_of_header hlen hclass
    refine ⟨_, exec_dsps s, ?_⟩
    have rest := dry.rest
    simp only [Prod.mk.injEq] at rest
    obtain ⟨rps, vui, bsr, valid⟩ := rest
    have val : (finishDsps (seqQ14 x)).val = 1 := by rw [finishDsps_val, show (seqQ14 x).err = _ from dry.err]; rfl
    rw [stop]
    exact ⟨dry.err, valid, dry.err, dry.pos, val, rfl, dry.sps, dry.sloi, rps, vui, bsr⟩
  intro s fs hdr vps space idc compat constraint level id width height luma chroma poc nesting tier sloi amp sao mvp
    smooth crop f0 f1 f2 cbMin cbDiff tbMin tbDiff inter intra hclass hfs hwidth hfields
  have holds : StreamHolds (startDsps s) fs := ⟨rfl, (Nat.zero_add _).trans_le hwidth, hfields⟩
  have fields : fs = (.u 16, hdr) :: (.u 4, vps) :: (.u 3, 0) :: (.f, nesting.toNat) :: (.u 2, space) ::
      (.f, tier.toNat) :: (.u 5, idc) :: (.u 32, compat) :: (.u 48, constraint) :: (.u 8, level) :: (.ue, id) ::
      (.ue, 1) :: (.ue, width) :: (.ue, height) :: (cropFields crop ++ (.ue, luma) :: (.ue, chroma) :: (.ue, poc) ::
      (.f, sloi.toNat) :: (.ue, f0) :: (.ue, f1) :: (.ue, f2) :: (.ue, cbMin) :: (.ue, cbDiff) :: (.ue, tbMin) ::
      (.ue, tbDiff) :: (.ue, inter) :: (.ue, intra) :: (.f, 0) :: (.f, amp.toNat) :: (.f, sao.toNat) :: (.f, 0) ::
      [(.ue, 0), (.f, 0), (.f, mvp.toNat), (.f, smooth.toNat), (.f, 0)]) := by
    rw [hfs]
    cases crop <;> rfl
  rw [fields] at holds
  have ptl := (Reading.start holds).q1toQ3
  have q6 := ptl.q4toQ6_minimal crop
  have q10 := q6.q7toQ10_minimal rfl
  obtain ⟨x, q11, read⟩ := q10.q11toQ13_minimal
  have long : 2 ≤ s.len := by
    simp only [fields, fieldsWidth, fieldWidth] at hwidth
    omega
  have stop := decodeSps_of_sps long hclass (congrArg SpsRecord.maxSubLayersMinus1 ptl.spsOf) q11
  have pos : fieldsWidth fs = (seqQ13 (seqQ12 x)).pos := by
    rw [read.posOf, fields]
    simp
  refine ⟨_, exec_dsps s, ?_⟩
  rw [stop, pos, read.into]
  exact ⟨rfl, rfl, rfl, rfl, rfl, rfl, rfl, rfl, by cases crop <;> rfl⟩

end Sys2Proof.Machine

namespace Sys2Proof.Machine

/-! ### The latch before the first Exp-Golomb field -/

/-- The latch is clear, or a fixed-width read has run out of bits (R93). -/
def ClearOrTruncated (s : State) : Prop := s.err = .ok ∨ s.err = .truncated

theorem clearOrTruncated_readBits {n : Nat} {s : State} (h : ClearOrTruncated s) : ClearOrTruncated (readBits n s) := by
  rcases readBits_cases n s with ⟨-, read⟩ | ⟨-, -, read⟩ | ⟨-, -, read⟩ <;> rw [read]
  · exact h
  · exact .inr rfl
  · exact h

section
variable {s : State} (h : ClearOrTruncated s)
include h

theorem ClearOrTruncated.bits {n : Nat} {put : Word → SpsRecord → SpsRecord} :
    ClearOrTruncated (readSps (.u n) put s) := clearOrTruncated_readBits h

theorem ClearOrTruncated.flag {put : Word → SpsRecord → SpsRecord} : ClearOrTruncated (readSps .f put s) :=
  clearOrTruncated_readBits h

theorem ClearOrTruncated.seq (q : Seq) : ClearOrTruncated (setSeq q s) := h

theorem ClearOrTruncated.header : ClearOrTruncated (readNalHeader s) := by
  rw [readNalHeader_eq]
  exact clearOrTruncated_readBits (h.seq .q1)

theorem ClearOrTruncated.q2 : ClearOrTruncated (seqQ2 s) := (h.seq .q2).bits.bits.flag

theorem ClearOrTruncated.ptl : ClearOrTruncated (readPtl s) := (h.seq .q3).bits.flag.bits.bits.bits.bits

end

/-- Steps Q1 to Q3 read fixed-width fields only (R127 to R129). -/
theorem afterPtl_clearOrTruncated (s : State) : ClearOrTruncated (afterPtl (startDsps s)) :=
  have start : ClearOrTruncated (startDsps s) := .inl rfl
  have header : ClearOrTruncated (afterQ1 (startDsps s)) := start.header
  header.q2.ptl

/-! ### What the steps before Q12 leave of its flags and of those of Q13 -/

/-- Registers 41 to 44. -/
def lateFlags (s : State) : Bool × Bool × Bool × Bool :=
  (s.sps.longTermRefPicsPresentFlag, s.sps.temporalMvpEnabledFlag, s.sps.strongIntraSmoothingEnabledFlag,
    s.sps.vuiParametersPresentFlag)

theorem afterPtl_lateFlags (s : State) : lateFlags (afterPtl s) = lateFlags s := by
  simp [afterPtl, afterQ1, readPtl, seqQ2, readNalHeader, lateFlags]

theorem seqQ4_lateFlags (s : State) : lateFlags (seqQ4 s) = lateFlags s := by
  unfold seqQ4
  simp only
  split <;> simp [lateFlags]

theorem seqQ5_lateFlags (s : State) : lateFlags (seqQ5 s) = lateFlags s := by
  unfold seqQ5
  simp only
  split <;> simp [readConfWindow, lateFlags]

theorem seqQ6_lateFlags (s : State) : lateFlags (seqQ6 s) = lateFlags s := by simp [seqQ6, lateFlags]

theorem seqQ7_lateFlags (s : State) : lateFlags (seqQ7 s) = lateFlags s := by
  rw [lateFlags, show (seqQ7 s).sps = _ from congrArg (fun p => p.1) (seqQ7_besidesSloi s)]
  simp [lateFlags, besidesSloi]

theorem seqQ8_lateFlags (s : State) : lateFlags (seqQ8 s) = lateFlags s := by simp [seqQ8, lateFlags]

theorem readScalingData_lateFlags (s : State) : lateFlags (readScalingData s) = lateFlags s := by
  unfold readScalingData
  simp only
  split <;> simp [lateFlags, (scalingListSkip_moves _).sps_eq]

theorem seqQ9_lateFlags (s : State) : lateFlags (seqQ9 s) = lateFlags s := by
  unfold seqQ9
  simp only
  split
  · rw [readScalingData_lateFlags]
    simp [lateFlags]
  · simp [lateFlags]

theorem seqQ10_lateFlags (s : State) : lateFlags (seqQ10 s) = lateFlags s := by
  unfold seqQ10
  simp only
  split <;> simp [readPcm, lateFlags]

theorem seqQ4toQ10_lateFlags (s : State) : lateFlags (seqQ4toQ10 s) = lateFlags s := by
  simp only [seqQ4toQ10, seqQ10_lateFlags, seqQ9_lateFlags, seqQ8_lateFlags, seqQ7_lateFlags, seqQ6_lateFlags,
    seqQ5_lateFlags, seqQ4_lateFlags]

/-! ### Step Q11's loop, up to where it stops -/

/-- Decoding an entry leaves `RPS` to the caller, which appends it (R140, R160). -/
theorem appendRpsEntry_length (idx : Word) (s : State) : (appendRpsEntry idx s).rps.length = s.rps.length + 1 := by
  obtain ⟨e, he, -⟩ := appendRpsEntry_rps idx s
  rw [he, List.length_append]
  rfl

/-- A loop that stops has decoded some entries without an error, and stops at the checkpoint of the next (R141). -/
theorem rpsLoop_stop {count : Nat} {idx : Word} {s u : State} (h : rpsLoop count idx s = .stop u) :
    ∃ n v, n < count ∧ rpsLoop n idx s = .go v ∧ u = reportLatch (appendRpsEntry (idx + BitVec.ofNat 64 n) v) ∧
      u.err ≠ .ok := by
  induction count generalizing idx s with
  | zero => cases h
  | succ count ih =>
    rw [rpsLoop] at h
    split at h
    · rename_i set
      cases h
      exact ⟨0, s, Nat.succ_pos _, rfl, by simp, (failed_iff _).1 set⟩
    · rename_i clear
      obtain ⟨n, v, hn, go, stop, err⟩ := ih h
      refine ⟨n + 1, v, by omega, by rw [rpsLoop, if_neg clear, go], ?_, err⟩
      rw [stop, Nat.add_comm n 1, BitVec.ofNat_add, BitVec.add_assoc]
      rfl

/-- A loop that goes on has appended its entries without an error (R140). -/
theorem rpsLoop_go {n : Nat} {idx : Word} {s v : State} (h : rpsLoop n idx s = .go v) (he : s.err = .ok) :
    v.err = .ok ∧ v.rps.length = s.rps.length + n ∧ besidesRps v = besidesRps s ∧ v.buf = s.buf ∧ v.len = s.len := by
  have moves := rpsLoop_moves n idx s
  rw [h] at moves
  suffices v.err = .ok ∧ v.rps.length = s.rps.length + n ∧ besidesRps v = besidesRps s from
    ⟨this.1, this.2.1, this.2.2, moves.buf, moves.len⟩
  clear moves
  induction n generalizing idx s with
  | zero =>
    cases h
    exact ⟨he, rfl, rfl⟩
  | succ n ih =>
    rw [rpsLoop] at h
    split at h
    · cases h
    · rename_i clear
      obtain ⟨err, length, keeps⟩ := ih h ((not_failed_iff _).1 (by simpa using clear))
      rw [appendRpsEntry_length] at length
      exact ⟨err, by omega, keeps.trans (appendRpsEntry_besidesRps idx s)⟩

end Sys2Proof.Machine

namespace Sys2Proof.Machine

/-! ### The steps that may stop, by what they answer -/

section
variable {s a b u : State}

theorem seqQ1_go (h : seqQ1 s = .go a) : a = afterQ1 s := by
  cases unit : isSpsUnit (readNalHeader s) with
  | true => exact (Walk.go.inj ((seqQ1_of_sps s unit).symm.trans h)).symm
  | false => cases (seqQ1_of_other s unit).symm.trans h

theorem seqQ1_stop (h : seqQ1 s = .stop u) : u = setRecValid false (setResult .wrongUnitType (readNalHeader s)) := by
  cases unit : isSpsUnit (readNalHeader s) with
  | true => cases (seqQ1_of_sps s unit).symm.trans h
  | false => exact (Walk.stop.inj ((seqQ1_of_other s unit).symm.trans h)).symm

theorem seqQ3_go (h : seqQ3 s = .go b) : b = readPtl s ∧ (readPtl s).sps.maxSubLayersMinus1 = 0 := by
  by_cases layers : (readPtl s).sps.maxSubLayersMinus1 = 0
  · exact ⟨(Walk.go.inj ((seqQ3_of_zero s layers).symm.trans h)).symm, layers⟩
  · cases (seqQ3_of_ne_zero s layers).symm.trans h

theorem seqQ3_stop (h : seqQ3 s = .stop u) : u = setResult .ok (readPtl s) := by
  by_cases layers : (readPtl s).sps.maxSubLayersMinus1 = 0
  · cases (seqQ3_of_zero s layers).symm.trans h
  · exact (Walk.stop.inj ((seqQ3_of_ne_zero s layers).symm.trans h)).symm

/-- Once the unit type is known to be that of an SPS there is a record (R19, R127). -/
theorem afterPtl_recValid (s : State) : (afterPtl s).recValid = true :=
  (Moves.trans (seqQ2_moves _) (readPtl_moves (seqQ2 (afterQ1 s)))).recValid_eq

theorem afterPtl_early (s : State) : EarlyRecord 0 (afterPtl (startDsps s)) := by
  have start := startDsps_early s
  have q1 : EarlyRecord 0 (afterQ1 (startDsps s)) :=
    (start.step (readNalHeader_moves _) (start.geom.congr (readNalHeader_geometry _))).recValid true
  have q2 := q1.step (seqQ2_moves _) (q1.geom.congr (seqQ2_geometry _))
  exact q2.step (readPtl_moves _) (q2.geom.congr (readPtl_geometry _))

/-- The record when step Q11 ends, wherever it leaves the walk. -/
theorem seqQ11_record (h1 : seqQ1 (startDsps s) = .go a) (h3 : seqQ3 (seqQ2 a) = .go b) :
    LateRecord (walkState (seqQ11 (seqQ4toQ10 b))) := by
  obtain rfl := seqQ1_go h1
  obtain ⟨rfl, layers⟩ := seqQ3_go h3
  exact (seqQ11_late (seqQ4toQ10_early ⟨⟨afterPtl_recValid _, layers⟩, afterPtl_early s⟩)).1

end

/-- What step Q11 begins with. -/
theorem seqQ4toQ10_start {s a b : State} (h1 : seqQ1 (startDsps s) = .go a) (h3 : seqQ3 (seqQ2 a) = .go b) :
    (seqQ4toQ10 b).buf = s.buf ∧ (seqQ4toQ10 b).len = s.len ∧ (seqQ4toQ10 b).rps = [] ∧
      lateFlags (seqQ4toQ10 b) = (false, false, false, false) := by
  have q1 := seqQ1_moves (startDsps s)
  have q3 := (seqQ2_moves a).weaken.trans (seqQ3_moves (seqQ2 a))
  rw [h1] at q1
  rw [h3] at q3
  have moves := (q1.trans q3).trans (seqQ4toQ10_moves b)
  obtain rfl := seqQ1_go h1
  obtain ⟨rfl, layers⟩ := seqQ3_go h3
  have early := (seqQ4toQ10_early ⟨⟨afterPtl_recValid _, layers⟩, afterPtl_early s⟩).2
  refine ⟨moves.buf, moves.len, early.rps, ?_⟩
  rw [seqQ4toQ10_lateFlags]
  exact afterPtl_lateFlags _

/-! ### The checkpoint of step Q11 -/

/-- Step Q11, begun in `s`, stops in `u` (R140, R141): after `n` entries without an error the walk is in `v`, and the
decode of the next entry `e`, which ends in `w`, latches one. -/
structure RpsCheckpoint (s u : State) (n : Nat) (v w : State) (e : RpsEntry) : Prop where
  announced : n < u.sps.numShortTermRefPicSets.toNat
  before : rpsLoop n 0 (afterCount s) = .go v
  clear : v.err = .ok
  length : v.rps.length = s.rps.length + n
  buf : v.buf = s.buf
  len : v.len = s.len
  entry : shortTermRps (BitVec.ofNat 64 n) u.sps.numShortTermRefPicSets
    { v with temps := { v.temps with idx := BitVec.ofNat 64 n } } = (w, e)
  latched : u.err ≠ .ok
  err : u.err = w.err
  pos : u.pos = w.pos
  rps : u.rps = v.rps ++ [e]
  result : u.result = u.err
  late : lateFlags u = lateFlags s

/-- The loop is entered with the latch clear only: a count whose read failed is 0 (R90, R139). -/
theorem afterCount_err {s : State} (h : 0 < (afterCount s).sps.numShortTermRefPicSets.toNat) :
    (afterCount s).err = .ok := by
  by_contra he
  have zero : (afterCount s).sps.numShortTermRefPicSets = 0 := by
    rw [afterCount, readSps_sps]
    exact readField_val_of_err (by rwa [afterCount, readSps_err] at he)
  rw [zero] at h
  exact absurd h (by decide)

/-- What a stop of step Q11 leaves. -/
theorem seqQ11_stop {s u : State} (h : seqQ11 s = .stop u) : ∃ n v w e, RpsCheckpoint s u n v w e := by
  rw [seqQ11_eq] at h
  obtain ⟨n, v, hn, go, stop, err⟩ := rpsLoop_stop h
  obtain ⟨clear, length, keeps, buf, len⟩ := rpsLoop_go go (afterCount_err (by omega))
  obtain ⟨w, e, entry⟩ : ∃ w e, shortTermRps (BitVec.ofNat 64 n) v.sps.numShortTermRefPicSets
      { v with temps := { v.temps with idx := BitVec.ofNat 64 n } } = (w, e) := ⟨_, _, rfl⟩
  have moves := shortTermRps_moves (BitVec.ofNat 64 n) v.sps.numShortTermRefPicSets
    { v with temps := { v.temps with idx := BitVec.ofNat 64 n } }
  rw [entry] at moves
  rw [zero_add, appendRpsEntry_of_entry entry] at stop
  have before : v.sps = (afterCount s).sps := congrArg (fun p => p.1) keeps
  have after : u.sps = v.sps := by
    rw [stop]
    exact moves.sps_eq
  refine ⟨n, v, w, e, ?_⟩
  constructor
  case announced => rwa [after, before]
  case before => exact go
  case clear => exact clear
  case length => rw [length, afterCount, readSps_rps, setSeq_rps]
  case buf => rw [buf, afterCount, readSps_buf, setSeq_buf]
  case len => rw [len, afterCount, readSps_len, setSeq_len]
  case entry => rw [after]; exact entry
  case latched => exact err
  case late => rw [lateFlags, after, before]; simp [afterCount, lateFlags]
  case rps => rw [stop]; exact congrArg (· ++ [e]) moves.rps_eq
  all_goals rw [stop]; rfl

/-! ### `RESULT` and the latch -/

/-- Wherever a DSPS ends, `RESULT` is the latch, but at the unit-type stop and at the sub-layer exit (R210, R211). -/
theorem decodeSps_result (s : State) :
    (decodeSps s).result = (decodeSps s).err ∨
    ((decodeSps s).result = .wrongUnitType ∧ (decodeSps s).recValid = false ∧ ClearOrTruncated (decodeSps s)) ∨
    ((decodeSps s).result = .ok ∧ (decodeSps s).recValid = true ∧ (decodeSps s).err = .truncated ∧
      (decodeSps s).sps.maxSubLayersMinus1 ≠ 0) := by
  have latch := afterPtl_clearOrTruncated s
  have valid := afterPtl_recValid (startDsps s)
  have header : ClearOrTruncated (readNalHeader (startDsps s)) := ClearOrTruncated.header (.inl rfl)
  rw [decodeSps]
  rcases walkSps_cases (startDsps s) with ⟨-, stop⟩ | ⟨-, layers, stop⟩ | ⟨-, -, t, q11, stop⟩ | ⟨-, -, t, -, stop⟩ <;>
    rw [stop]
  · generalize readNalHeader (startDsps s) = t at header
    exact .inr (.inl ⟨rfl, rfl, header⟩)
  · generalize afterPtl (startDsps s) = t at latch valid layers
    rcases latch with ok | truncated
    · exact .inl ok.symm
    · exact .inr (.inr ⟨rfl, valid, truncated, layers⟩)
  · obtain ⟨n, v, w, e, checkpoint⟩ := seqQ11_stop q11
    exact .inl checkpoint.result
  · exact .inl rfl

/-- Settles O42, stop by stop. -/
theorem resultAgainstLatch : Obligations.ResultAgainstLatch := by
  refine ⟨?result, ?q1, ?q3, ?q11, ?q14⟩
  case result =>
    intro s t h
    obtain rfl := exec_dsps_next h
    exact decodeSps_result s
  case q1 =>
    intro s u h1
    refine ⟨_, exec_dsps s, ?_⟩
    rw [decodeSps_of_q1_stop h1, seqQ1_stop h1]
    exact ⟨rfl, rfl⟩
  case q3 =>
    intro s a u h1 h3
    refine ⟨_, exec_dsps s, ?_⟩
    have valid : (readPtl (seqQ2 a)).recValid = true := by
      rw [seqQ1_go h1]
      exact afterPtl_recValid (startDsps s)
    rw [decodeSps_of_q3_stop h1 h3, seqQ3_stop h3]
    generalize readPtl (seqQ2 a) = t at valid
    exact ⟨rfl, valid⟩
  case q11 =>
    intro s a b u h1 h3 h11
    have record := seqQ11_record h1 h3
    rw [h11] at record
    obtain ⟨n, v, w, e, stop⟩ := seqQ11_stop h11
    obtain ⟨buf, len, rps, late⟩ := seqQ4toQ10_start h1 h3
    have flags := stop.late.trans late
    simp only [lateFlags, Prod.mk.injEq] at flags
    obtain ⟨longTerm, mvp, smooth, vui⟩ := flags
    have length := stop.length
    rw [rps, List.length_nil, Nat.zero_add] at length
    refine ⟨_, exec_dsps s, ?_⟩
    rw [decodeSps_of_q11_stop h1 h3 h11]
    exact ⟨stop.latched, stop.result, record.passed.1, longTerm, mvp, smooth, vui, record.vui, record.bsr, n, v, w, e,
      stop.announced, stop.before, stop.clear, length, stop.buf.trans buf, stop.len.trans len, stop.entry, stop.err,
      stop.pos, stop.rps⟩
  case q14 =>
    intro s a b c h1 h3 h11
    have late := seqQ11_record h1 h3
    rw [h11] at late
    refine ⟨_, exec_dsps s, ?_⟩
    have passed := (seqQ13_record (late.sizedStep (seqQ12_moves c) (seqQ12_sizes c))).2.2
    rw [decodeSps_of_q11_go h1 h3 h11]
    generalize seqQ13 (seqQ12 c) = t at passed
    exact ⟨rfl, passed.1⟩

end Sys2Proof.Machine

namespace Sys2Proof.Machine

/-! ### The reference picture set routine: what its reads do not look at -/

/-- A fixed-width read looks neither at `SEQ` nor at the temporaries. -/
theorem readBits_aside (n : Nat) (q : Seq) (x : Temps) (s : State) :
    readBits n (setSeq q (setTemps x s)) = setSeq q (setTemps x (readBits n s)) := by
  rcases readBits_cases n s with ⟨latched, read⟩ | ⟨clear, short, read⟩ | ⟨clear, inside, read⟩ <;> rw [read]
  · exact readBits_latched (s := setSeq q (setTemps x s)) latched
  · exact readBits_truncated (s := setSeq q (setTemps x s)) clear short
  · exact readBits_ok (s := setSeq q (setTemps x s)) clear inside

/-- Nor does a variable-length read. -/
theorem readUe_aside (q : Seq) (x : Temps) (s : State) :
    readUe (setSeq q (setTemps x s)) = setSeq q (setTemps x (readUe s)) := by
  by_cases clear : s.err = .ok
  · cases scan : leadingZeros s with
    | ranOut =>
      rw [readUe_of_ranOut clear scan]
      exact readUe_of_ranOut (s := setSeq q (setTemps x s)) clear scan
    | tooLong =>
      rw [readUe_of_tooLong clear scan]
      exact readUe_of_tooLong (s := setSeq q (setTemps x s)) clear scan
    | terminated lz p =>
      by_cases inside : p + lz ≤ streamEnd s
      · rw [readUe_of_terminated clear scan inside]
        exact readUe_of_terminated (s := setSeq q (setTemps x s)) clear scan inside
      · obtain ⟨n, -, -, -, one, -⟩ := scanZeros_terminated scan
        rw [readUe_of_short_suffix clear scan (Nat.lt_of_not_le inside) one]
        exact readUe_of_short_suffix (s := setSeq q (setTemps x s)) clear scan (Nat.lt_of_not_le inside) one
  · have latched := readField_latched (k := .ue) clear
    rw [readField] at latched
    rw [latched]
    exact readField_latched (k := .ue) (s := setSeq q (setTemps x s)) clear

theorem readField_aside (k : FieldKind) (q : Seq) (x : Temps) (s : State) :
    readField k (setSeq q (setTemps x s)) = setSeq q (setTemps x (readField k s)) := by
  cases k with
  | u n => exact readBits_aside n q x s
  | f => exact readBits_aside 1 q x s
  | ue => exact readUe_aside q x s

theorem readField_setSeq (k : FieldKind) (q : Seq) (s : State) :
    readField k (setSeq q s) = setSeq q (readField k s) := by
  have kept : setTemps s.temps (readField k s) = readField k s := by
    rw [← readField_temps k s]
    rfl
  exact (readField_aside k q s.temps s).trans (congrArg (setSeq q) kept)

/-! ### Its two branches (R161) -/

section
variable {idx num : Word} {s : State}

theorem readPredictionFlag_of_ne_zero (h : idx ≠ 0) (s : State) :
    readPredictionFlag idx s =
      (setSeq (.rps .predictionFlag) (readFlag s), { interFlag := isOne (readFlag s).val }) := by
  rw [readPredictionFlag, if_neg h, readField_setSeq]
  rfl

/-- The explicit branch is taken for entry 0, which reads no flag, and for a later one after a flag that is not 1. Either
branch begins with a write of `SEQ`, so the one before the flag does not show. -/
theorem shortTermRps_explicit (h : idx ≠ 0 → (readFlag s).val ≠ 1) :
    shortTermRps idx num s = explicitEntry (if idx = 0 then s else readFlag s) {} := by
  by_cases h0 : idx = 0
  · subst h0
    rfl
  · have flag : isOne (readFlag s).val = false := decide_eq_false (h h0)
    rw [shortTermRps, readPredictionFlag_of_ne_zero h0, flag, if_neg h0]
    rfl

/-- The predicted branch is taken for a later entry after the flag 1. -/
theorem shortTermRps_predicted (h0 : idx ≠ 0) (h : (readFlag s).val = 1) :
    shortTermRps idx num s = predictedEntry idx num (readFlag s) { interFlag := true } := by
  have flag : isOne (readFlag s).val = true := decide_eq_true h
  rw [shortTermRps, readPredictionFlag_of_ne_zero h0, flag]
  rfl

theorem predictedEntry_interFlag (e : RpsEntry) : (predictedEntry idx num s e).2.interFlag = e.interFlag := by
  have same := predictedEntry_besidesCount idx num s e
  simp only [RpsEntry.mk.injEq] at same
  exact same.1

/-! ### The counts, and a count above 16 (R166, R167) -/

/-- The entry with the two counts read from `s`. -/
def countsEntry (s : State) : RpsEntry :=
  { numNegativePics := (readUe s).val, numPositivePics := (readUe (readUe s)).val }

theorem explicitEntry_eq (s : State) :
    explicitEntry s {} =
      if tooManyPictures (countsEntry s) then
        (recordError .tooManyReferencePictures (setSeq (.rps .bound) (readUe (readUe s))), countsEntry s)
      else readPairs (setSeq (.rps .bound) (readUe (readUe s))) (countsEntry s) := by
  have neg : readField .ue (setSeq (.rps .counts) s) = setSeq (.rps .counts) (readUe s) := readField_setSeq _ _ s
  have pos : readField .ue (setSeq (.rps .counts) (readUe s)) = setSeq (.rps .counts) (readUe (readUe s)) :=
    readField_setSeq _ _ _
  rw [explicitEntry, neg, pos]
  rfl

theorem explicitEntry_of_tooMany
    (h : 16 < (readUe s).val.toNat ∨ 16 < (readUe (readUe s)).val.toNat) :
    explicitEntry s {} =
      (recordError .tooManyReferencePictures (setSeq (.rps .bound) (readUe (readUe s))), countsEntry s) := by
  rw [explicitEntry_eq, if_pos ((tooManyPictures_iff _).2 h)]

theorem explicitEntry_of_few
    (h : ¬ (16 < (readUe s).val.toNat ∨ 16 < (readUe (readUe s)).val.toNat)) :
    explicitEntry s {} = readPairs (setSeq (.rps .bound) (readUe (readUe s))) (countsEntry s) := by
  rw [explicitEntry_eq, if_neg (mt (tooManyPictures_iff _).1 h)]

/-- The pairs change neither the flag nor the counts. -/
theorem readPairs_besidesLists (s : State) (e : RpsEntry) :
    (readPairs s e).2.interFlag = e.interFlag ∧ (readPairs s e).2.numNegativePics = e.numNegativePics ∧
      (readPairs s e).2.numPositivePics = e.numPositivePics := by
  have same := (readPairs_entry s e).1
  simp only [RpsEntry.mk.injEq] at same
  obtain ⟨inter, neg, pos, -⟩ := same
  exact ⟨inter, neg, pos⟩

theorem explicitEntry_interFlag (s : State) : (explicitEntry s {}).2.interFlag = false := by
  rw [explicitEntry_eq]
  split
  · rfl
  · exact (readPairs_besidesLists _ _).1

/-- Which branch an entry took is told by its flag. -/
theorem shortTermRps_cases (idx num : Word) (s : State) :
    (idx ≠ 0 ∧ (shortTermRps idx num s).2.interFlag = true ∧
      shortTermRps idx num s = predictedEntry idx num (readFlag s) { interFlag := true }) ∨
    ((shortTermRps idx num s).2.interFlag = false ∧
      shortTermRps idx num s = explicitEntry (if idx = 0 then s else readFlag s) {}) := by
  by_cases h : idx ≠ 0 ∧ (readFlag s).val = 1
  · have branch := shortTermRps_predicted (num := num) h.1 h.2
    exact .inl ⟨h.1, by rw [branch, predictedEntry_interFlag], branch⟩
  · have branch := shortTermRps_explicit (num := num) (not_and.1 h)
    exact .inr ⟨by rw [branch, explicitEntry_interFlag], branch⟩

/-- Settles O48: the explicit branch reads the two counts and stops at the bound. -/
theorem tooManyPicturesLatched : Obligations.TooManyPicturesLatched := by
  intro idx num s r hr flag clear many
  have explicit : shortTermRps idx num s = explicitEntry r {} := by
    rw [hr]
    refine shortTermRps_explicit fun h0 one => ?_
    have zero := flag h0
    rw [hr, if_neg h0, one] at zero
    cases zero
  refine ⟨_, explicit.trans (explicitEntry_of_tooMany many), ?_, ?_⟩
  · rw [recordError_err, setSeq_err, if_pos clear]
  · rw [recordError_pos, setSeq_pos]

/-! ### The reference of a predicted entry (R162, R163) -/

/-- The offset is one more than a value read in the slice-header context (R162). -/
theorem readDeltaIdx_of_eq (idx : Word) (s : State) :
    readDeltaIdx idx idx s =
      setSeq (.rps .deltaIdx) (setTemps { s.temps with deltaIdx := (readUe s).val + 1 } (readUe s)) := by
  have read := readField_aside .ue (.rps .deltaIdx) { s.temps with deltaIdx := 1 } s
  rw [readDeltaIdx, if_pos rfl, readTemp, noteTemps, read]
  rfl

/-- Outside it the offset is 1, and nothing is read. -/
theorem readDeltaIdx_of_ne (h : idx ≠ num) (s : State) :
    readDeltaIdx idx num s = setSeq (.rps .deltaIdx) (noteTemps (fun r => { r with deltaIdx := 1 }) s) := if_neg h

theorem predictedEntry_of_lt {e : RpsEntry} (h : idx < (readDeltaIdx idx num s).temps.deltaIdx) :
    predictedEntry idx num s e =
      (recordError .malformed (setSeq (.rps .reference) (readDeltaIdx idx num s)), e) := if_pos h

theorem predictedEntry_of_le {e : RpsEntry} (h : (readDeltaIdx idx num s).temps.deltaIdx ≤ idx) :
    predictedEntry idx num s e = predictedCount idx (readDeltaIdx idx num s) e := if_neg (BitVec.not_lt.2 h)

/-- The value of an Exp-Golomb read is at most the largest one, whether the read fails or not (R112). -/
theorem readUe_val_le (s : State) : (readUe s).val.toNat ≤ 2 ^ 33 - 2 := by
  rcases readUe_cases s with ⟨-, read⟩ | ⟨-, _, -, read⟩ | ⟨-, lz, hlz, -, read⟩ <;> rw [read]
  · exact Nat.zero_le _
  · exact Nat.zero_le _
  · exact (BitVec.toNat_ofNat _ _).trans_le ((Nat.mod_le _ _).trans (ueValue_le hlz _ _))

/-- One more than it does not wrap. -/
theorem toNat_readUe_add_one (s : State) : ((readUe s).val + 1).toNat = (readUe s).val.toNat + 1 := by
  have small := readUe_val_le s
  bv_omega

/-- Settles O49: the predicted branch reads the offset, which does not wrap, and stops at the reference. -/
theorem forwardReferenceIsMalformed : Obligations.ForwardReferenceIsMalformed := by
  intro idx s h0 flag clear beyond
  have forward : idx < (readDeltaIdx idx idx (readFlag s)).temps.deltaIdx := by
    rw [readDeltaIdx_of_eq, BitVec.lt_def]
    exact beyond.trans_eq (toNat_readUe_add_one _).symm
  refine ⟨_, (shortTermRps_predicted h0 flag).trans (predictedEntry_of_lt forward), ?_, ?_⟩
  · rw [recordError_err, readDeltaIdx_of_eq]
    exact if_pos clear
  · rw [recordError_pos, readDeltaIdx_of_eq]
    rfl

end

end Sys2Proof.Machine

namespace Sys2Proof.Machine

/-! ### The entry's lists: their shape in every state (R168 to R171) -/

/-- A delta that is one more than a value read (R112, R171). -/
def DeltaInRange (d : Word × Bool) : Prop := 1 ≤ d.1.toNat ∧ d.1.toNat ≤ 2 ^ 33 - 1

/-- Every delta of both lists. -/
def DeltasInRange (e : RpsEntry) : Prop := (∀ d ∈ e.s0, DeltaInRange d) ∧ ∀ d ∈ e.s1, DeltaInRange d

/-- A value read plus one, with any flag. -/
theorem deltaInRange_readUe (s : State) (flag : Bool) : DeltaInRange ((readUe s).val + 1, flag) := by
  have small := readUe_val_le s
  rw [DeltaInRange, toNat_readUe_add_one]
  omega

theorem readS0Pair_deltas (i : Nat) (p : State × RpsEntry) (h : DeltasInRange p.2) :
    DeltasInRange (readS0Pair i p).2 :=
  ⟨List.forall_mem_append.2 ⟨h.1, List.forall_mem_singleton.2 (deltaInRange_readUe _ _)⟩, h.2⟩

theorem readS1Pair_deltas (i : Nat) (p : State × RpsEntry) (h : DeltasInRange p.2) :
    DeltasInRange (readS1Pair i p).2 :=
  ⟨h.1, List.forall_mem_append.2 ⟨h.2, List.forall_mem_singleton.2 (deltaInRange_readUe _ _)⟩⟩

theorem readPairs_deltas (s : State) {e : RpsEntry} (h : DeltasInRange e) : DeltasInRange (readPairs s e).2 :=
  repeatFor_keeps (P := fun p : State × RpsEntry => DeltasInRange p.2) readS1Pair_deltas _ 0 _
    (repeatFor_keeps (P := fun p : State × RpsEntry => DeltasInRange p.2) readS0Pair_deltas _ 0 _ h)

theorem explicitEntry_deltas (s : State) : DeltasInRange (explicitEntry s {}).2 := by
  rw [explicitEntry_eq]
  split
  · exact ⟨nofun, nofun⟩
  · exact readPairs_deltas _ ⟨nofun, nofun⟩

theorem recordError_latched {e : ErrCode} (he : e ≠ .ok) (s : State) : (recordError e s).err ≠ .ok := by
  rw [recordError_err]
  split
  · exact he
  · assumption

/-- With a count above 16 an error is latched (R167). -/
theorem explicitEntry_latched {s : State}
    (h : 16 < (explicitEntry s {}).2.numNegativePics.toNat ∨ 16 < (explicitEntry s {}).2.numPositivePics.toNat) :
    (explicitEntry s {}).1.err ≠ .ok := by
  by_cases many : 16 < (readUe s).val.toNat ∨ 16 < (readUe (readUe s)).val.toNat
  · rw [explicitEntry_of_tooMany many]
    exact recordError_latched (by decide) _
  · obtain ⟨-, neg, pos⟩ := readPairs_besidesLists (setSeq (.rps .bound) (readUe (readUe s))) (countsEntry s)
    rw [explicitEntry_of_few many, neg, pos] at h
    exact absurd h many

/-- What an explicit entry holds, whatever the stream holds. -/
theorem explicitEntry_shape {s t : State} {e : RpsEntry} (h : explicitEntry s {} = (t, e)) :
    ((16 < e.numNegativePics.toNat ∨ 16 < e.numPositivePics.toNat) →
      e.numDeltaPocs = 0 ∧ e.s0 = [] ∧ e.s1 = [] ∧ t.err ≠ .ok) ∧
    (e.numNegativePics.toNat ≤ 16 → e.numPositivePics.toNat ≤ 16 →
      e.numDeltaPocs.toNat = e.numNegativePics.toNat + e.numPositivePics.toNat ∧
      e.s0.length = e.numNegativePics.toNat ∧ e.s1.length = e.numPositivePics.toNat ∧
      ∀ d ∈ e.s0 ++ e.s1, DeltaInRange d) := by
  have inter := explicitEntry_interFlag s
  have shape := (explicitEntry_ok s).1
  have latched := @explicitEntry_latched s
  have deltas := explicitEntry_deltas s
  simp only [h] at inter shape latched deltas
  rw [EntryShape, if_neg (by rw [inter]; nofun)] at shape
  refine ⟨fun many => ?_, fun few few' => ?_⟩
  · rw [if_pos many] at shape
    obtain ⟨count, s0, s1⟩ := shape
    exact ⟨count, s0, s1, latched many⟩
  · rw [if_neg (by omega)] at shape
    obtain ⟨count, s0, s1⟩ := shape
    exact ⟨count, s0, s1, List.forall_mem_append.2 deltas⟩

/-! ### The entry's fields, where the stream holds them -/

section
variable {s t u : State} {done todo : Fields}

/-- The routine's answer `p` is the entry `e`, and the fields `done` were read on the way to it. -/
structure Answers (s : State) (done todo : Fields) (p : State × RpsEntry) (u : State) (e : RpsEntry) : Prop where
  reading : Reading s done todo p.1 u
  entry : p.2 = e

theorem Reading.withEntry (h : Reading s done todo t u) (e : RpsEntry) : Answers s done todo (t, e) u e := ⟨h, rfl⟩

theorem Answers.seq {p : State × RpsEntry} {e : RpsEntry} (q : Seq) (h : Answers s done todo p u e) :
    Answers s done todo (setSeq q p.1, p.2) u e := ⟨h.reading.seq q, h.entry⟩

/-- The same answer, what was read written in another way. -/
theorem Answers.cast {p : State × RpsEntry} {e : RpsEntry} {fs gs : Fields} (h : Answers s fs todo p u e)
    (hf : fs = gs) : Answers s gs todo p u e := hf ▸ h

/-- An answer with nothing left to read. -/
theorem Answers.finish {p : State × RpsEntry} {e : RpsEntry} {fs : Fields} (h : Answers s done [] p u e)
    (hd : done = fs) : ∃ t, p = (t, e) ∧ ReadsInto fs s t u :=
  ⟨p.1, by rw [← h.entry], h.reading.finish hd⟩

/-- A loop whose iterations each read the fields of one item; `entry` is what the items so far make of the entry. -/
theorem Answers.loop {α : Type} {fields : α → Fields} {entry : List α → RpsEntry}
    {body : Nat → State × RpsEntry → State × RpsEntry}
    (hb : ∀ {i a before done todo p}, Answers s done (fields a ++ todo) p u (entry before) →
      Answers s (done ++ fields a) todo (body i p) u (entry (before ++ [a])))
    (items before : List α) (first : Nat) {done : Fields} {p : State × RpsEntry}
    (h : Answers s done (items.flatMap fields ++ todo) p u (entry before)) :
    Answers s (done ++ items.flatMap fields) todo (repeatFor body items.length first p) u (entry (before ++ items)) := by
  induction items generalizing before first done p with
  | nil => simpa using h
  | cons a items ih =>
    rw [List.flatMap_cons, List.append_assoc] at h
    rw [List.length_cons, repeatFor_succ]
    simpa using ih (before ++ [a]) (first + 1) (hb h)

/-! ### An explicit entry's fields -/

/-- One pair, which `put` stores (R169 to R171). -/
theorem Answers.pair {put : RpsEntry → Word × Bool → RpsEntry} {i : Nat} {d : Nat × Bool} {p : State × RpsEntry}
    {e : RpsEntry} (h : Answers s done ((.ue, d.1) :: (.f, d.2.toNat) :: todo) p u e) :
    Answers s (done ++ [(.ue, d.1), (.f, d.2.toNat)]) todo (readPairInto put i p) u
      (put e (BitVec.ofNat 64 (d.1 + 1), d.2)) := by
  obtain ⟨read, rfl⟩ := h
  have start := read.note fun r => { r with i := i }
  have delta := start.nextField
  refine ⟨delta.nextField.cast (by simp) rfl, ?_⟩
  simp only [readPairInto, Reading.val (readsField start.ahead), Reading.val (readsField delta.ahead), isOne_flag,
    BitVec.ofNat_add]
  rfl

theorem storedPairs_concat (ds : List (Nat × Bool)) (d : Nat × Bool) :
    storedPairs (ds ++ [d]) = storedPairs ds ++ [(BitVec.ofNat 64 (d.1 + 1), d.2)] := List.map_append

/-- A list of pairs; `entry` is what the pairs so far make of the entry (R168 to R170). -/
theorem Answers.pairs {put : RpsEntry → Word × Bool → RpsEntry} {entry : List (Word × Bool) → RpsEntry}
    (hput : ∀ l d, put (entry l) d = entry (l ++ [d])) (ds : List (Nat × Bool)) {p : State × RpsEntry}
    (h : Answers s done (pairFields ds ++ todo) p u (entry [])) :
    Answers s (done ++ pairFields ds) todo (repeatFor (readPairInto put) ds.length 0 p) u (entry (storedPairs ds)) :=
  Answers.loop (entry := fun ds => entry (storedPairs ds))
    (fun h => by rw [storedPairs_concat, ← hput]; exact h.pair) ds [] 0 h

/-- An entry that is not predicted, with its counts and its lists. -/
def entryWithLists (neg pos : Nat) (s0 s1 : List (Word × Bool)) : RpsEntry :=
  { numNegativePics := BitVec.ofNat 64 neg, numPositivePics := BitVec.ofNat 64 pos,
    numDeltaPocs := BitVec.ofNat 64 (neg + pos), s0 := s0, s1 := s1 }

/-- The two lists, negative first (R168 to R170). -/
theorem Reading.bothLists {neg pos : List (Nat × Bool)} {e : RpsEntry}
    (hneg : e.numNegativePics.toNat = neg.length) (hpos : e.numPositivePics.toNat = pos.length)
    (he : { e with numDeltaPocs := e.numNegativePics + e.numPositivePics } =
      entryWithLists neg.length pos.length [] [])
    (h : Reading s done (pairFields neg ++ (pairFields pos ++ todo)) t u) :
    Answers s (done ++ pairFields neg ++ pairFields pos) todo (readPairs t e) u
      (entryWithLists neg.length pos.length (storedPairs neg) (storedPairs pos)) := by
  have start := (h.seq (.rps .negativeList)).withEntry (entryWithLists neg.length pos.length [] [])
  have negative := start.pairs (put := fun e d => { e with s0 := e.s0 ++ [d] })
    (entry := fun l => entryWithLists neg.length pos.length l []) (fun _ _ => rfl) neg
  have positive := (negative.seq (.rps .positiveList)).pairs (put := fun e d => { e with s1 := e.s1 ++ [d] })
    (entry := entryWithLists neg.length pos.length (storedPairs neg)) (fun _ _ => rfl) pos
  rw [readPairs, hneg, hpos, he]
  exact positive

/-- The explicit branch: the counts, and the pairs (R166 to R170). -/
theorem Reading.explicit {neg pos : List (Nat × Bool)} (hneg : neg.length ≤ 16) (hpos : pos.length ≤ 16)
    (h : Reading s done ((.ue, neg.length) :: (.ue, pos.length) :: (pairFields neg ++ (pairFields pos ++ todo))) t u) :
    Answers s (done ++ ((.ue, neg.length) :: (.ue, pos.length) :: (pairFields neg ++ pairFields pos))) todo
      (explicitEntry t {}) u (entryWithLists neg.length pos.length (storedPairs neg) (storedPairs pos)) := by
  have one := h.nextField
  have two := one.nextField
  have negValue : (readUe t).val = BitVec.ofNat 64 neg.length := Reading.val (readsField h.ahead)
  have posValue : (readUe (readUe t)).val = BitVec.ofNat 64 pos.length := Reading.val (readsField one.ahead)
  have negCount : (readUe t).val.toNat = neg.length := by rw [negValue, toNat_ofNat_of_codeword h.ahead]
  have posCount : (readUe (readUe t)).val.toNat = pos.length := by rw [posValue, toNat_ofNat_of_codeword one.ahead]
  have counts : { countsEntry t with numDeltaPocs := (readUe t).val + (readUe (readUe t)).val } =
      entryWithLists neg.length pos.length [] [] := by
    rw [countsEntry, negValue, posValue, entryWithLists, BitVec.ofNat_add]
  rw [explicitEntry_of_few (by omega)]
  exact (Reading.bothLists negCount posCount counts (two.seq (.rps .bound))).cast (by simp)

/-- Where the explicit branch starts: for a later entry after the flag 0 (R161). -/
theorem reading_explicitStart {idx : Word} (h : StreamHolds s ((if idx = 0 then [] else [(.f, 0)]) ++ todo)) :
    (idx ≠ 0 → (readFlag s).val ≠ 1) ∧
      Reading s (if idx = 0 then [] else [(.f, 0)]) todo (if idx = 0 then s else readFlag s) s := by
  by_cases h0 : idx = 0
  · simp only [h0, if_true, List.nil_append] at h ⊢
    exact ⟨nofun, .start h⟩
  · simp only [h0, if_false, List.singleton_append] at h ⊢
    have value : (readFlag s).val = 0 := Reading.val (readsField h)
    exact ⟨fun _ => by rw [value]; decide, (Reading.start h).nextField⟩

end

/-- Settles O47: the shape of the explicit branch's answer, and its reads where the stream holds their fields.
(`explicitEntry` alone is the model's branch.) -/
theorem explicitEntry_holds : Obligations.ExplicitEntry := by
  refine ⟨fun idx num s t e h inter => ?_, fun idx num s neg pos fs hneg hpos hfs holds => ?_⟩
  · rcases shortTermRps_cases idx num s with ⟨-, flag, -⟩ | ⟨-, branch⟩
    · rw [h, inter] at flag
      cases flag
    · exact explicitEntry_shape (branch.symm.trans h)
  · have fields : fs = (if idx = 0 then [] else [(.f, 0)]) ++
        (.ue, neg.length) :: (.ue, pos.length) :: (pairFields neg ++ pairFields pos) := by simp [hfs]
    rw [fields, ← List.append_nil (pairFields pos)] at holds
    obtain ⟨flag, start⟩ := reading_explicitStart holds
    rw [shortTermRps_explicit flag]
    exact (start.explicit hneg hpos).finish fields.symm

end Sys2Proof.Machine

namespace Sys2Proof.Machine

/-! ### A predicted entry (R162 to R165) -/

section
variable {s t u : State} {done todo : Fields} {idx num : Word}

/-- The flags of one prior delta-POC (R165). -/
def priorFlags : Option Bool → Fields
  | none => [(.f, 1)]
  | some b => [(.f, 0), (.f, b.toNat)]

theorem priorFields_eq (ps : List (Option Bool)) : priorFields ps = ps.flatMap priorFlags := rfl

theorem priorCount_concat (ps : List (Option Bool)) (o : Option Bool) :
    priorCount (ps ++ [o]) = priorCount ps + if o = some false then 0 else 1 := by
  by_cases h : o = some false <;> simp [priorCount, List.filter_append, h]

/-- A predicted entry, with its count. -/
def entryWithCount (count : Nat) : RpsEntry := { interFlag := true, numDeltaPocs := BitVec.ofNat 64 count }

/-- The state after the `usedByCurrPicFlag` of prior delta-POC `j`. -/
def usedFlagRead (j : Nat) (s : State) : State :=
  readTemp .f (fun v r => { r with used := isOne v }) (noteTemps (fun r => { r with j := j, useDelta := false }) s)

/-- The state after a `useDeltaFlag`. -/
def useDeltaRead (s : State) : State := readTemp .f (fun v r => { r with useDelta := isOne v }) s

/-- The state after the flags of prior delta-POC `j`: the second one is read only after a first one that is 0. -/
def priorRead (j : Nat) (s : State) : State :=
  if (usedFlagRead j s).temps.used then usedFlagRead j s else useDeltaRead (usedFlagRead j s)

theorem countDelta_eq (j : Nat) (p : State × RpsEntry) :
    countDelta j p = (priorRead j p.1,
      if (priorRead j p.1).temps.used || (priorRead j p.1).temps.useDelta then
        { p.2 with numDeltaPocs := p.2.numDeltaPocs + 1 } else p.2) := rfl

/-- A picture in use counts (R165). -/
theorem countDelta_of_used {j : Nat} {p : State × RpsEntry} (h : (usedFlagRead j p.1).temps.used = true) :
    countDelta j p = (usedFlagRead j p.1, { p.2 with numDeltaPocs := p.2.numDeltaPocs + 1 }) := by
  rw [countDelta_eq, priorRead, if_pos h, h]
  rfl

/-- A picture not in use counts if its second flag is 1 (R165). -/
theorem countDelta_of_unused {j : Nat} {p : State × RpsEntry} (h : (usedFlagRead j p.1).temps.used = false) :
    countDelta j p = (useDeltaRead (usedFlagRead j p.1),
      if isOne (readField .f (usedFlagRead j p.1)).val then { p.2 with numDeltaPocs := p.2.numDeltaPocs + 1 }
      else p.2) := by
  rw [countDelta_eq, priorRead, if_neg (by rw [h]; nofun), useDeltaRead, readTemp_temps, h, Bool.false_or]

/-- One prior delta-POC: it counts if one of its two flags is 1 (R165). -/
theorem Answers.prior {j n : Nat} {o : Option Bool} {p : State × RpsEntry}
    (h : Answers s done (priorFlags o ++ todo) p u (entryWithCount n)) :
    Answers s (done ++ priorFlags o) todo (countDelta j p) u
      (entryWithCount (n + if o = some false then 0 else 1)) := by
  obtain ⟨read, entry⟩ := h
  have start := read.note fun r => { r with j := j, useDelta := false }
  have counted : { p.2 with numDeltaPocs := p.2.numDeltaPocs + 1 } = entryWithCount (n + 1) := by
    rw [entry, entryWithCount, entryWithCount, BitVec.ofNat_add]
    rfl
  cases o with
  | none =>
    have used : (usedFlagRead j p.1).temps.used = true := by
      rw [usedFlagRead, readTemp_temps, Reading.val (readsField start.ahead), isOne_one]
    rw [countDelta_of_used used]
    have flag : Reading s (done ++ [(.f, 1)]) todo (usedFlagRead j p.1) u := start.nextTemp _
    exact ⟨flag, counted⟩
  | some b =>
    have unused : (usedFlagRead j p.1).temps.used = false := by
      rw [usedFlagRead, readTemp_temps, Reading.val (readsField start.ahead), isOne_zero]
    have flag : Reading s (done ++ [(.f, 0)]) ((.f, b.toNat) :: todo) (usedFlagRead j p.1) u := start.nextTemp _
    rw [countDelta_of_unused unused, Reading.val (readsField flag.ahead), isOne_flag]
    have both : Reading s (done ++ [(.f, 0)] ++ [(.f, b.toNat)]) todo (useDeltaRead (usedFlagRead j p.1)) u :=
      flag.nextTemp _
    refine ⟨both.cast (List.append_assoc ..) rfl, ?_⟩
    cases b with
    | true => exact counted
    | false => exact entry

/-- The state in which the loop over the prior delta-POCs begins: the delta is dropped, and the reference's index and
count are noted (R164, R165). -/
def referenceNoted (idx : Word) (s : State) : State :=
  setSeq (.rps .dependentCount) (noteTemps
    (fun r => { r with refIdx := idx - r.deltaIdx, nd := numDeltaPocsAt s (idx - r.deltaIdx) })
    (skipField .ue (skipField .f (setSeq (.rps .discardedDelta) s))))

theorem predictedCount_eq (idx : Word) (s : State) (e : RpsEntry) :
    predictedCount idx s e =
      repeatFor countDelta (numDeltaPocsAt s (idx - s.temps.deltaIdx)).toNat 0 (referenceNoted idx s, e) := by
  simp [predictedCount, referenceNoted, numDeltaPocsAt, noteTemps, setTemps]

/-- The count from the flags, as many as the reference has prior delta-POCs (R164, R165). -/
theorem Reading.predicted {prior : List (Option Bool)} {sign magnitude : Nat}
    (hcount : (numDeltaPocsAt t (idx - t.temps.deltaIdx)).toNat = prior.length)
    (h : Reading s done ((.f, sign) :: (.ue, magnitude) :: (priorFields prior ++ todo)) t u) :
    Answers s (done ++ ((.f, sign) :: (.ue, magnitude) :: priorFields prior)) todo
      (predictedCount idx t { interFlag := true }) u (entryWithCount (priorCount prior)) := by
  have noted : Reading s (done ++ [(.f, sign)] ++ [(.ue, magnitude)]) (priorFields prior ++ todo)
      (referenceNoted idx t) u :=
    ((h.seq _).nextField.nextField.note _).seq _
  rw [predictedCount_eq, hcount]
  exact ((noted.withEntry (entryWithCount 0)).loop (fields := priorFlags)
    (entry := fun ps => entryWithCount (priorCount ps))
    (fun h => by rw [priorCount_concat]; exact h.prior) prior [] 0).cast
    (by simp [priorFields_eq])

/-- The offset, where the stream holds it or 1 is taken (R162). -/
theorem Reading.deltaIdx {d : Nat} (hd : idx ≠ num → d = 0)
    (h : Reading s done ((if idx = num then [(.ue, d)] else []) ++ todo) t u) :
    Reading s (done ++ if idx = num then [(.ue, d)] else []) todo (readDeltaIdx idx num t) u ∧
      (readDeltaIdx idx num t).temps.deltaIdx = BitVec.ofNat 64 (d + 1) := by
  have start := (h.note fun r => { r with deltaIdx := 1 }).seq (.rps .deltaIdx)
  by_cases same : idx = num
  · subst same
    rw [if_pos rfl] at h start ⊢
    have value : (readUe t).val = BitVec.ofNat 64 d := Reading.val (readsField h.ahead)
    refine ⟨?_, by rw [readDeltaIdx_of_eq, value, BitVec.ofNat_add]; rfl⟩
    rw [readDeltaIdx, if_pos rfl]
    exact start.nextTemp _
  · obtain rfl := hd same
    rw [if_neg same] at start ⊢
    rw [readDeltaIdx_of_ne same]
    exact ⟨start.cast (by simp) rfl, rfl⟩

end

/-- An offset up to the index names an entry before it: neither the test nor the difference wraps (R163, R164). -/
theorem reference_index {idx : Word} {d : Nat} (h : d + 1 ≤ idx.toNat) :
    BitVec.ofNat 64 (d + 1) ≤ idx ∧ (idx - BitVec.ofNat 64 (d + 1)).toNat = idx.toNat - (d + 1) := by
  have value : (BitVec.ofNat 64 (d + 1)).toNat = d + 1 := by
    rw [BitVec.toNat_ofNat, Nat.mod_eq_of_lt (by omega)]
  have le : BitVec.ofNat 64 (d + 1) ≤ idx := by rwa [BitVec.le_def, value]
  exact ⟨le, by rw [BitVec.toNat_sub_of_le le, value]⟩

theorem numDeltaPocsAt_of_getElem? {s : State} {k : Word} {ref : RpsEntry} (h : s.rps[k.toNat]? = some ref) :
    numDeltaPocsAt s k = ref.numDeltaPocs := by
  rw [numDeltaPocsAt, List.getD_eq_getElem?_getD, h, Option.getD_some]

/-- The reference is an entry of `RPS` (R164). -/
theorem numDeltaPocsAt_reference {s t : State} {idx : Word} {d : Nat} {ref : RpsEntry} (h : d + 1 ≤ idx.toNat)
    (offset : t.temps.deltaIdx = BitVec.ofNat 64 (d + 1)) (hrps : t.rps = s.rps)
    (href : s.rps[idx.toNat - (d + 1)]? = some ref) :
    numDeltaPocsAt t (idx - t.temps.deltaIdx) = ref.numDeltaPocs := by
  rw [offset]
  exact numDeltaPocsAt_of_getElem? (by rw [(reference_index h).2, hrps, href])

/-- A predicted entry holds nothing but its count (R172). -/
theorem predictedEntry_countOnly {idx num : Word} {s t : State} {e : RpsEntry}
    (h : predictedEntry idx num s { interFlag := true } = (t, e)) :
    e = { interFlag := true, numDeltaPocs := e.numDeltaPocs } := by
  have same := predictedEntry_besidesCount idx num s { interFlag := true }
  simp only [h, RpsEntry.mk.injEq] at same
  obtain ⟨inter, neg, pos, -, s0, s1⟩ := same
  cases e
  simp_all

/-- Outside the slice-header context it counts no more pictures than the entry before it has (R162, R165). -/
theorem predictedEntry_count_le {idx num : Word} {s t : State} {e ref : RpsEntry} (outside : idx ≠ num)
    (h0 : 1 ≤ idx.toNat) (href : s.rps[idx.toNat - 1]? = some ref)
    (h : predictedEntry idx num s { interFlag := true } = (t, e)) :
    e.numDeltaPocs.toNat ≤ ref.numDeltaPocs.toNat := by
  have offset : (readDeltaIdx idx num s).temps.deltaIdx = BitVec.ofNat 64 (0 + 1) := by
    rw [readDeltaIdx_of_ne outside]
    rfl
  have bound := predictedCount_count_le idx (readDeltaIdx idx num s) { interFlag := true }
  rw [numDeltaPocsAt_reference h0 offset (readDeltaIdx_moves idx num s).rps_eq href,
    ← predictedEntry_of_le (num := num) (offset.trans_le (reference_index h0).1), h] at bound
  exact bound.trans_eq (Nat.zero_add _)

/-- Settles O50: the answer's shape and bound outside the slice-header context, and its reads where the stream holds
their fields. (`predictedEntry` alone is the model's branch.) -/
theorem predictedEntry_holds : Obligations.PredictedEntry := by
  refine ⟨fun idx num s t e h outside first last inter => ?_,
    fun idx num s d magnitude sign ref prior fs h0 hd outside href hprior hfs holds => ?_⟩
  · rcases shortTermRps_cases idx num s with ⟨-, -, branch⟩ | ⟨flag, -⟩
    · have answer := branch.symm.trans h
      have held : s.rps[idx.toNat - 1]? = some s.rps[idx.toNat - 1] := List.getElem?_eq_getElem (by omega)
      have kept : (readFlag s).rps = s.rps := readField_rps .f s
      exact ⟨predictedEntry_countOnly answer, _, held,
        predictedEntry_count_le outside first (by rw [kept, held]) answer⟩
    · rw [h, inter] at flag
      cases flag
  · have fields : fs = ([(.f, 1)] ++ if idx = num then [(.ue, d)] else []) ++
        (.f, sign.toNat) :: (.ue, magnitude) :: priorFields prior := by simp [hfs]
    rw [fields, ← List.append_nil (priorFields prior), List.append_assoc] at holds
    have flag : (readFlag s).val = 1 := Reading.val (readsField holds)
    have start : Reading s [(.f, 1)] _ (readFlag s) s := (Reading.start holds).nextField
    obtain ⟨read, offset⟩ := start.deltaIdx outside
    have reference := numDeltaPocsAt_reference hd offset read.rpsOf href
    rw [shortTermRps_predicted h0 flag, predictedEntry_of_le (offset.trans_le (reference_index hd).1)]
    exact (read.predicted (by rw [hprior, reference])).finish fields.symm

end Sys2Proof.Machine

namespace Sys2Proof.Machine

/-! ### What a stretch of the walk that keeps the record leaves of the whole state -/

/-- `Moves recordPart` as a record equation: the cursor, `SEQ` and the temporaries are all that changes. -/
theorem Moves.frame {s t : State} (h : Moves recordPart s t) :
    t = { s with pos := t.pos, err := t.err, val := t.val, seq := t.seq, temps := t.temps } := by
  obtain ⟨buf, len, params, inputs, freeTick, -, -, -, -, keeps⟩ := h
  simp only [recordPart, Prod.mk.injEq] at keeps
  obtain ⟨sps, sloi, rps, vui, bsr, result, recValid⟩ := keeps
  rw [← buf, ← len, ← params, ← inputs, ← freeTick, ← sps, ← sloi, ← rps, ← vui, ← bsr, ← result, ← recValid]

/-- Settles O53: the skip keeps the record. -/
theorem scalingSkipKeepsTheRecord : Obligations.ScalingSkipKeepsTheRecord :=
  fun s => (scalingListSkip_moves s).frame

/-! ### One scaling matrix (R176, R177) -/

section
variable {s t u : State} {done todo : Fields}

/-- The delta coefficients (R176). -/
theorem Reading.coefficients (vs : List Nat) (h : Reading s done (vs.map (FieldKind.ue, ·) ++ todo) t u) :
    Reading s (done ++ vs.map (FieldKind.ue, ·)) todo (repeatFor skipCoefficient vs.length 0 t) u := by
  rw [List.map_eq_flatMap] at h ⊢
  exact (h.loop (store := fun _ u => u) (P := fun _ => True) (fun _ => trivial)
    (fun _ h => (h.note _).nextField) vs 0 trivial).cast rfl (List.foldl_fixed' (fun _ => rfl) vs)

/-- The DC coefficient, where the size class has one, and the delta coefficients (R176, R177). -/
theorem Reading.matrixValues {sizeId : Nat} {vs : List Nat}
    (hvs : vs.length = (if 1 < sizeId then 1 else 0) + coefNum sizeId)
    (h : Reading s done (vs.map (FieldKind.ue, ·) ++ todo) t u) :
    Reading s (done ++ vs.map (FieldKind.ue, ·)) todo
      (repeatFor skipCoefficient (coefNum sizeId) 0 (skipDc sizeId t)) u := by
  unfold skipDc
  by_cases dc : 1 < sizeId
  · rw [if_pos dc] at hvs
    rw [if_pos dc]
    obtain ⟨v, rest, rfl⟩ := List.exists_cons_of_length_pos (show 0 < vs.length by omega)
    rw [show coefNum sizeId = rest.length by rw [List.length_cons] at hvs; omega]
    exact (Reading.coefficients rest h.nextField).cast (by simp) rfl
  · rw [if_neg dc, Nat.zero_add] at hvs
    rw [if_neg dc, ← hvs]
    exact Reading.coefficients vs h

/-- The state after a matrix's prediction-mode flag (R176). -/
def matrixFlagRead (sizeId matrixId : Nat) (s : State) : State :=
  readTemp .f (fun v r => { r with pm := isOne v })
    (setSeq (.sls .matrix) (noteTemps (fun r => { r with sizeId := sizeId, matrixId := matrixId }) s))

theorem skipOneMatrix_eq (sizeId matrixId : Nat) (s : State) :
    skipOneMatrix sizeId matrixId s =
      if (matrixFlagRead sizeId matrixId s).temps.pm then
        repeatFor skipCoefficient (coefNum sizeId) 0
          (skipDc sizeId (setSeq (.sls .coefficients) (matrixFlagRead sizeId matrixId s)))
      else skipField .ue (matrixFlagRead sizeId matrixId s) := rfl

/-- The flag is read, and decides the branch (R176). -/
theorem Reading.matrixFlag (sizeId matrixId : Nat) {v : Nat} (h : Reading s done ((.f, v) :: todo) t u) :
    Reading s (done ++ [(.f, v)]) todo (matrixFlagRead sizeId matrixId t) u ∧
      (matrixFlagRead sizeId matrixId t).temps.pm = isOne (BitVec.ofNat 64 v) := by
  have start := (h.note fun r => { r with sizeId := sizeId, matrixId := matrixId }).seq (.sls .matrix)
  exact ⟨start.nextTemp _, by rw [matrixFlagRead, readTemp_temps, Reading.val (readsField start.ahead)]⟩

/-- One matrix, whichever its fields (R176). -/
theorem Reading.matrix {sizeId : Nat} (matrixId : Nat) {fs : Fields} (hfs : MatrixFields sizeId fs)
    (h : Reading s done (fs ++ todo) t u) :
    Reading s (done ++ fs) todo (skipOneMatrix sizeId matrixId t) u := by
  rw [skipOneMatrix_eq]
  rcases hfs with ⟨delta, rfl⟩ | ⟨vs, hvs, rfl⟩
  · obtain ⟨flag, predicted⟩ := h.matrixFlag sizeId matrixId
    rw [if_neg (by rw [predicted]; nofun)]
    exact flag.nextField.cast (by simp) rfl
  · obtain ⟨flag, coded⟩ := h.matrixFlag sizeId matrixId
    rw [if_pos (coded.trans isOne_one)]
    exact ((flag.seq _).matrixValues hvs).cast (by simp) rfl

/-! ### The twenty matrices in order (R175) -/

/-- A loop is a fold over its indices (R9). -/
theorem repeatFor_eq_foldl {α : Type} (body : Nat → α → α) (count first : Nat) (a : α) :
    repeatFor body count first a = (List.range' first count).foldl (fun a i => body i a) a := by
  induction count generalizing first a with
  | zero => rfl
  | succ count ih => rw [repeatFor_succ, ih, List.range'_succ, List.foldl_cons]

/-- The pairs `(sizeId, matrixId)` in the order of the routine's two loops (R175, D23). -/
def matrixOrder : List (Nat × Nat) :=
  (List.range 4).flatMap fun sizeId => (List.range (matrixCount sizeId)).map (sizeId, ·)

/-- The routine is one matrix after the other in that order. -/
theorem scalingListSkip_eq (s : State) :
    scalingListSkip s = matrixOrder.foldl (fun t p => skipOneMatrix p.1 p.2 t) s := by
  have sizeClass : ∀ t sizeId, skipSizeClass sizeId t =
      (List.range (matrixCount sizeId)).foldl (fun t matrixId => skipOneMatrix sizeId matrixId t) t := by
    intro t sizeId
    rw [skipSizeClass, repeatFor_eq_foldl, List.range_eq_range']
  simp only [scalingListSkip, repeatFor_eq_foldl, matrixOrder, sizeClass, List.foldl_flatMap, List.foldl_map,
    List.range_eq_range']

theorem matrixOrder_sizeIds :
    matrixOrder.map Prod.fst =
      List.replicate 6 0 ++ List.replicate 6 1 ++ List.replicate 6 2 ++ List.replicate 2 3 := rfl

/-- A run of matrices, each with the fields of its size class. -/
theorem Reading.matrices {order : List (Nat × Nat)} {matrices : List Fields}
    (hm : List.Forall₂ (fun p fs => MatrixFields p.1 fs) order matrices)
    (h : Reading s done (matrices.flatten ++ todo) t u) :
    Reading s (done ++ matrices.flatten) todo (order.foldl (fun t p => skipOneMatrix p.1 p.2 t) t) u := by
  induction hm generalizing done t with
  | nil => exact h.cast (by simp) rfl
  | @cons p fs order matrices first _ ih =>
    rw [List.flatten_cons, List.append_assoc] at h
    exact (ih (h.matrix p.2 first)).cast (by simp) rfl

end

/-- The whole routine, where the stream holds the fields of its twenty matrices (R175). -/
theorem scalingListSkip_readsInto {s : State} {matrices : List Fields}
    (hm : List.Forall₂ MatrixFields
      (List.replicate 6 0 ++ List.replicate 6 1 ++ List.replicate 6 2 ++ List.replicate 2 3) matrices)
    (h : StreamHolds s matrices.flatten) : ReadsInto matrices.flatten s (scalingListSkip s) s := by
  rw [← matrixOrder_sizeIds, List.forall₂_map_left_iff] at hm
  rw [← List.append_nil matrices.flatten] at h
  rw [scalingListSkip_eq]
  exact ((Reading.start h).matrices hm).finish (List.nil_append _)

/-! ### The shortest run: every matrix the flag 0 and the codeword `1` (R179) -/

/-- The fields of `n` matrices that are one delta of 0 each. -/
def shortMatrices (n : Nat) : List Fields := List.replicate n [(.f, 0), (.ue, 0)]

theorem fieldsWidth_shortMatrices (n : Nat) : fieldsWidth (shortMatrices n).flatten = 2 * n := by
  induction n with
  | zero => rfl
  | succ n ih =>
    have two : fieldsWidth [(.f, 0), (.ue, 0)] = 2 := by decide
    rw [shortMatrices, List.replicate_succ, List.flatten_cons, fieldsWidth_append, two, ← shortMatrices, ih]
    omega

/-- A 0 bit and a 1 bit are the flag 0 and the codeword of 0 (R70, R115). -/
theorem fieldsAt_shortMatrix {m : Memory} {p : Nat} (h0 : streamBit m p = false) (h1 : streamBit m (p + 1) = true) :
    fieldsAt m p [(.f, 0), (.ue, 0)] = true := by
  have flag : fieldAt m p .f 0 = true := by simp [fieldAt, h0]
  have width : fieldWidth .ue 0 = 1 := by decide
  have code : fieldAt m (p + 1) .ue 0 = true := by simp [fieldAt, width, streamBits_one, h1]
  simp [fieldsAt, fieldWidth, flag, code]

theorem fieldsAt_shortMatrices {m : Memory} {p n : Nat}
    (h : ∀ i < n, streamBit m (p + 2 * i) = false ∧ streamBit m (p + 2 * i + 1) = true) :
    fieldsAt m p (shortMatrices n).flatten = true := by
  induction n with
  | zero => rfl
  | succ n ih =>
    obtain ⟨h0, h1⟩ := h n n.lt_succ_self
    rw [shortMatrices, List.replicate_succ', List.flatten_append, fieldsAt_append, ← shortMatrices,
      ih fun i hi => h i (hi.trans n.lt_succ_self), fieldsWidth_shortMatrices, List.flatten_singleton,
      fieldsAt_shortMatrix h0 h1]
    rfl

theorem shortMatrices_fields (sizeIds : List Nat) :
    List.Forall₂ MatrixFields sizeIds (shortMatrices sizeIds.length) := by
  induction sizeIds with
  | nil => exact .nil
  | cons sizeId sizeIds ih => exact .cons (.inl ⟨0, rfl⟩) ih

/-- Settles O54: the shortest run is one choice of the twenty matrices' fields, read like any other. -/
theorem scalingSkipShortest : Obligations.ScalingSkipShortest := by
  refine ⟨fun s clear inside bits => ?_, fun sizeId matrixId s fs hfs holds => ?_,
    fun s matrices hm holds => scalingListSkip_readsInto hm holds⟩
  · have width : fieldsWidth (shortMatrices 20).flatten = 40 := fieldsWidth_shortMatrices 20
    have holds : StreamHolds s (shortMatrices 20).flatten :=
      ⟨clear, by rwa [width], fieldsAt_shortMatrices bits⟩
    have read : ReadsInto (shortMatrices 20).flatten s (scalingListSkip s) s :=
      scalingListSkip_readsInto (shortMatrices_fields _) holds
    exact ⟨by rw [read, width], by rw [read, clear]⟩
  · rw [← List.append_nil fs] at holds
    exact ((Reading.start holds).matrix matrixId hfs).finish (List.nil_append fs)

end Sys2Proof.Machine

namespace Sys2Proof.Machine

/-! ### What each group of the VUI writes (R181 to R190)

A group writes its own registers only, and of these nothing but the presence flag where it reads that as 0. -/

theorem applySarLookup_vui (s : State) :
    ∃ width height, (applySarLookup s).vui = { s.vui with sarWidth := width, sarHeight := height } := by
  unfold applySarLookup
  split
  · exact ⟨_, _, rfl⟩
  · exact ⟨_, _, recordError_vui _ _⟩

theorem readSar_vui (s : State) :
    ∃ width height, (readSar s).vui = { s.vui with sarWidth := width, sarHeight := height } := by
  simp only [readSar, apply_ite State.vui, readVui_vui]
  split
  · exact ⟨_, _, rfl⟩
  · exact applySarLookup_vui s

theorem vuiAspectRatio_vui (s : State) : ∃ present idc width height,
    (vuiAspectRatio s).vui = { s.vui with
      aspectRatioInfoPresentFlag := present, aspectRatioIdc := idc, sarWidth := width, sarHeight := height } ∧
    (present = false → idc = s.vui.aspectRatioIdc ∧ width = s.vui.sarWidth ∧ height = s.vui.sarHeight) := by
  unfold vuiAspectRatio
  simp only
  split <;> rename_i flag
  · obtain ⟨width, height, written⟩ := readSar_vui (readVui (.u 8) _ (readVui .f _ (setSeq (.vui .aspectRatio) s)))
    rw [written]
    simp only [readVui_vui, setSeq_vui] at flag ⊢
    exact ⟨_, _, _, _, rfl, fun absent => nomatch flag.symm.trans absent⟩
  · simp only [readVui_vui, setSeq_vui]
    exact ⟨_, _, _, _, rfl, fun _ => ⟨rfl, rfl, rfl⟩⟩

theorem vuiOverscan_vui (s : State) : ∃ present appropriate,
    (vuiOverscan s).vui = { s.vui with
      overscanInfoPresentFlag := present, overscanAppropriateFlag := appropriate } ∧
    (present = false → appropriate = s.vui.overscanAppropriateFlag) := by
  simp only [vuiOverscan, apply_ite State.vui, readVui_vui, setSeq_vui]
  split
  · rename_i flag
    exact ⟨_, _, rfl, fun absent => nomatch flag.symm.trans absent⟩
  · exact ⟨_, _, rfl, fun _ => rfl⟩

theorem vuiSignalFields_vui (s : State) : ∃ format range colour primaries transfer matrix,
    (vuiSignalFields s).vui = { s.vui with
      videoFormat := format, videoFullRangeFlag := range, colourDescriptionPresentFlag := colour
      colourPrimaries := primaries, transferCharacteristics := transfer, matrixCoeffs := matrix } ∧
    (colour = false → primaries = s.vui.colourPrimaries ∧ transfer = s.vui.transferCharacteristics ∧
      matrix = s.vui.matrixCoeffs) := by
  simp only [vuiSignalFields, vuiColourDescription, apply_ite State.vui, readVui_vui]
  split
  · rename_i flag
    exact ⟨_, _, _, _, _, _, rfl, fun absent => nomatch flag.symm.trans absent⟩
  · exact ⟨_, _, _, _, _, _, rfl, fun _ => ⟨rfl, rfl, rfl⟩⟩

theorem vuiVideoSignal_vui (s : State) : ∃ present format range colour primaries transfer matrix,
    (vuiVideoSignal s).vui = { s.vui with
      videoSignalTypePresentFlag := present, videoFormat := format, videoFullRangeFlag := range
      colourDescriptionPresentFlag := colour
      colourPrimaries := primaries, transferCharacteristics := transfer, matrixCoeffs := matrix } ∧
    (present = false → format = s.vui.videoFormat ∧ range = s.vui.videoFullRangeFlag ∧
      colour = s.vui.colourDescriptionPresentFlag) ∧
    (colour = false → primaries = s.vui.colourPrimaries ∧ transfer = s.vui.transferCharacteristics ∧
      matrix = s.vui.matrixCoeffs) := by
  unfold vuiVideoSignal
  simp only
  split <;> rename_i flag
  · obtain ⟨_, _, _, _, _, _, written, noColour⟩ :=
      vuiSignalFields_vui (readVui .f _ (setSeq (.vui .videoSignal) s))
    rw [written]
    simp only [readVui_vui, setSeq_vui] at flag noColour ⊢
    exact ⟨_, _, _, _, _, _, _, rfl, (fun absent => nomatch flag.symm.trans absent), noColour⟩
  · simp only [readVui_vui, setSeq_vui]
    exact ⟨_, _, _, _, _, _, _, rfl, fun _ => ⟨rfl, rfl, rfl⟩, fun _ => ⟨rfl, rfl, rfl⟩⟩

theorem vuiChromaLocation_vui (s : State) : ∃ present top bottom,
    (vuiChromaLocation s).vui = { s.vui with
      chromaLocInfoPresentFlag := present
      chromaSampleLocTypeTopField := top, chromaSampleLocTypeBottomField := bottom } ∧
    (present = false → top = s.vui.chromaSampleLocTypeTopField ∧ bottom = s.vui.chromaSampleLocTypeBottomField) := by
  simp only [vuiChromaLocation, apply_ite State.vui, readVui_vui, setSeq_vui]
  split
  · rename_i flag
    exact ⟨_, _, _, rfl, fun absent => nomatch flag.symm.trans absent⟩
  · exact ⟨_, _, _, rfl, fun _ => ⟨rfl, rfl⟩⟩

theorem vuiThreeFlags_vui (s : State) : ∃ neutral field frame,
    (vuiThreeFlags s).vui = { s.vui with
      neutralChromaIndicationFlag := neutral, fieldSeqFlag := field, frameFieldInfoPresentFlag := frame } := by
  simp only [vuiThreeFlags, readVui_vui, setSeq_vui]
  exact ⟨_, _, _, rfl⟩

theorem vuiDisplayWindow_vui (s : State) : ∃ present left right top bottom,
    (vuiDisplayWindow s).vui = { s.vui with
      defaultDisplayWindowFlag := present, defDispWinLeftOffset := left, defDispWinRightOffset := right
      defDispWinTopOffset := top, defDispWinBottomOffset := bottom } ∧
    (present = false → left = s.vui.defDispWinLeftOffset ∧ right = s.vui.defDispWinRightOffset ∧
      top = s.vui.defDispWinTopOffset ∧ bottom = s.vui.defDispWinBottomOffset) := by
  simp only [vuiDisplayWindow, apply_ite State.vui, readVui_vui, setSeq_vui]
  split
  · rename_i flag
    exact ⟨_, _, _, _, _, rfl, fun absent => nomatch flag.symm.trans absent⟩
  · exact ⟨_, _, _, _, _, rfl, fun _ => ⟨rfl, rfl, rfl, rfl⟩⟩

theorem vuiPocProportional_vui (s : State) : ∃ proportional ticks,
    (vuiPocProportional s).vui = { s.vui with
      pocProportionalToTimingFlag := proportional, numTicksPocDiffOneMinus1 := ticks } ∧
    (proportional = false → ticks = s.vui.numTicksPocDiffOneMinus1) := by
  simp only [vuiPocProportional, apply_ite State.vui, readVui_vui, setSeq_vui]
  split
  · rename_i flag
    exact ⟨_, _, rfl, fun absent => nomatch flag.symm.trans absent⟩
  · exact ⟨_, _, rfl, fun _ => rfl⟩

theorem vuiHrdFlag_vui (s : State) : (vuiHrdFlag s).vui =
    { s.vui with hrdParametersPresentFlag := isOne (readField .f (setSeq (.vui .hrd) s)).val } := by
  simp only [vuiHrdFlag, readVui_vui, setSeq_vui]

theorem vuiTiming_vui (s : State) : ∃ present units scale proportional ticks hrd,
    (vuiTiming s).vui = { s.vui with
      timingInfoPresentFlag := present, numUnitsInTick := units, timeScale := scale
      pocProportionalToTimingFlag := proportional, numTicksPocDiffOneMinus1 := ticks
      hrdParametersPresentFlag := hrd } ∧
    (present = false → units = s.vui.numUnitsInTick ∧ scale = s.vui.timeScale ∧
      proportional = s.vui.pocProportionalToTimingFlag ∧ hrd = s.vui.hrdParametersPresentFlag) ∧
    (proportional = false → ticks = s.vui.numTicksPocDiffOneMinus1) := by
  unfold vuiTiming
  simp only
  split <;> rename_i flag
  · obtain ⟨_, _, written, noPoc⟩ := vuiPocProportional_vui
      (readVui (.u 32) _ (readVui (.u 32) _ (readVui .f _ (setSeq (.vui .timing) s))))
    rw [vuiHrdFlag_vui, written]
    simp only [readVui_vui, setSeq_vui] at flag noPoc ⊢
    exact ⟨_, _, _, _, _, _, rfl, (fun absent => nomatch flag.symm.trans absent), noPoc⟩
  · simp only [readVui_vui, setSeq_vui]
    exact ⟨_, _, _, _, _, _, rfl, fun _ => ⟨rfl, rfl, rfl, rfl⟩, fun _ => rfl⟩

theorem vuiRestrictionFlag_vui (s : State) :
    ∃ present, (vuiRestrictionFlag s).vui = { s.vui with bitstreamRestrictionFlag := present } := by
  simp only [vuiRestrictionFlag, apply_ite State.vui, vuiRestrictions_vui, ite_self, readVui_vui, setSeq_vui]
  exact ⟨_, rfl⟩

/-! ### The registers of absent groups -/

/-- The registers of a group whose presence flag is 0 are 0 (R192), and so is the bitstream-restriction flag after the
HRD exit (R189). -/
structure AbsentGroupsClear (v : VuiRecord) : Prop where
  aspectRatio : v.aspectRatioInfoPresentFlag = false → v.aspectRatioIdc = 0 ∧ v.sarWidth = 0 ∧ v.sarHeight = 0
  overscan : v.overscanInfoPresentFlag = false → v.overscanAppropriateFlag = false
  videoSignal : v.videoSignalTypePresentFlag = false →
    v.videoFormat = 0 ∧ v.videoFullRangeFlag = false ∧ v.colourDescriptionPresentFlag = false
  colour : v.colourDescriptionPresentFlag = false →
    v.colourPrimaries = 0 ∧ v.transferCharacteristics = 0 ∧ v.matrixCoeffs = 0
  chromaLocation : v.chromaLocInfoPresentFlag = false →
    v.chromaSampleLocTypeTopField = 0 ∧ v.chromaSampleLocTypeBottomField = 0
  displayWindow : v.defaultDisplayWindowFlag = false →
    v.defDispWinLeftOffset = 0 ∧ v.defDispWinRightOffset = 0 ∧ v.defDispWinTopOffset = 0 ∧ v.defDispWinBottomOffset = 0
  timing : v.timingInfoPresentFlag = false →
    v.numUnitsInTick = 0 ∧ v.timeScale = 0 ∧ v.pocProportionalToTimingFlag = false ∧ v.hrdParametersPresentFlag = false
  poc : v.pocProportionalToTimingFlag = false → v.numTicksPocDiffOneMinus1 = 0
  hrd : v.hrdParametersPresentFlag = true → v.bitstreamRestrictionFlag = false

/-- A clear `VUI.*` has no group at all. -/
theorem absentGroupsClear_of_empty {v : VuiRecord} (h : v = {}) : AbsentGroupsClear v := by
  subst h
  constructor <;> decide

/-- The bitstream-restriction flag may be written where the routine did not end at the HRD exit (R189, R190). -/
theorem AbsentGroupsClear.restriction {v : VuiRecord} (h : AbsentGroupsClear v)
    (noHrd : v.hrdParametersPresentFlag = false) (present : Bool) :
    AbsentGroupsClear { v with bitstreamRestrictionFlag := present } :=
  ⟨h.aspectRatio, h.overscan, h.videoSignal, h.colour, h.chromaLocation, h.displayWindow, h.timing, h.poc,
    fun hrd => nomatch noHrd.symm.trans hrd⟩

/-- From a clear `VUI.*`, each group leaves 0 what it does not read, and no group touches another's registers. -/
theorem vuiGroups_absentGroupsClear {s : State} (h : s.vui = {}) : AbsentGroupsClear (vuiGroups s).vui := by
  unfold vuiGroups
  obtain ⟨_, _, _, _, e1, aspectRatio⟩ := vuiAspectRatio_vui s
  generalize vuiAspectRatio s = s1 at *
  obtain ⟨_, _, e2, overscan⟩ := vuiOverscan_vui s1
  generalize vuiOverscan s1 = s2 at *
  obtain ⟨_, _, _, _, _, _, _, e3, videoSignal, colour⟩ := vuiVideoSignal_vui s2
  generalize vuiVideoSignal s2 = s3 at *
  obtain ⟨_, _, _, e4, chroma⟩ := vuiChromaLocation_vui s3
  generalize vuiChromaLocation s3 = s4 at *
  obtain ⟨_, _, _, e5⟩ := vuiThreeFlags_vui s4
  generalize vuiThreeFlags s4 = s5 at *
  obtain ⟨_, _, _, _, _, e6, window⟩ := vuiDisplayWindow_vui s5
  generalize vuiDisplayWindow s5 = s6 at *
  obtain ⟨_, _, _, _, _, _, e7, timing, poc⟩ := vuiTiming_vui s6
  simp only [h, e1, e2, e3, e4, e5, e6] at aspectRatio overscan videoSignal colour chroma window timing poc e7
  rw [e7]
  exact ⟨aspectRatio, overscan, videoSignal, colour, chroma, window, timing, poc, fun _ => rfl⟩

/-! ### The HRD exit -/

/-- At the HRD exit the routine ends where the groups end (R180, R189). -/
theorem vuiParameters_of_hrdExit {s : State} (h : hrdExit (vuiGroups s) = true) : vuiParameters s = vuiGroups s := by
  simp only [vuiParameters, h, if_true]

/-- Without it the bitstream restrictions follow (R180, R190). -/
theorem vuiParameters_of_no_hrdExit {s : State} (h : hrdExit (vuiGroups s) = false) :
    vuiParameters s = vuiRestrictionFlag (vuiGroups s) := by
  simp only [vuiParameters, h, Bool.false_eq_true, if_false]

/-- The HRD flag is 0 without the exit: it is inside timing info (R187, R189). -/
theorem AbsentGroupsClear.no_hrd {s : State} (h : AbsentGroupsClear s.vui) (exit : hrdExit s = false) :
    s.vui.hrdParametersPresentFlag = false := by
  rcases (Bool.and_eq_false_iff).1 exit with noTiming | noHrd
  · obtain ⟨-, -, -, noHrd⟩ := h.timing noTiming
    exact noHrd
  · exact noHrd

theorem vuiParameters_absentGroupsClear {s : State} (h : s.vui = {}) : AbsentGroupsClear (vuiParameters s).vui := by
  have groups := vuiGroups_absentGroupsClear h
  cases exit : hrdExit (vuiGroups s) with
  | true => rwa [vuiParameters_of_hrdExit exit]
  | false =>
    obtain ⟨present, written⟩ := vuiRestrictionFlag_vui (vuiGroups s)
    rw [vuiParameters_of_no_hrdExit exit, written]
    exact groups.restriction (groups.no_hrd exit) present

/-! ### The VUI after a DSPS -/

/-- Step Q13 runs the routine once, if at all (R145). -/
theorem seqQ13_absentGroupsClear {s : State} (h : s.vui = {}) : AbsentGroupsClear (seqQ13 s).vui := by
  unfold seqQ13
  simp only
  split
  · rw [setSeq_vui]
    exact vuiParameters_absentGroupsClear (by simp only [readSps_vui, setSeq_vui, h])
  · exact absentGroupsClear_of_empty (by simp only [readSps_vui, setSeq_vui, h])

theorem seqQ14_vui (s : State) : (seqQ14 s).vui = s.vui := by
  simp only [seqQ14, reportLatch, setResult_vui, setSeq_vui]

theorem seqQ12toQ14_absentGroupsClear {s : State} (h : LateRecord s) : AbsentGroupsClear (seqQ12toQ14 s).vui := by
  rw [seqQ12toQ14, seqQ14_vui]
  exact seqQ13_absentGroupsClear (h.sizedStep (seqQ12_moves s) (seqQ12_sizes s)).vui

theorem decodeSps_vui (s : State) : (decodeSps s).vui = (walkState (walkSps (startDsps s))).vui := by
  rw [decodeSps, finishDsps, freeTheTemps_vui, setVal_vui, setSeq_vui]

/-- A walk that ends before step Q13 leaves `VUI.*` clear; the others leave it as that step does (R206). -/
theorem decodeSps_absentGroupsClear (s : State) : AbsentGroupsClear (decodeSps s).vui := by
  have start := startDsps_early s
  have ptl := afterPtl_early s
  have late : (afterPtl (startDsps s)).sps.maxSubLayersMinus1 = 0 → _ := fun layers =>
    (seqQ11_late (seqQ4toQ10_early ⟨⟨afterPtl_recValid _, layers⟩, ptl⟩)).1
  rw [decodeSps_vui]
  rcases walkSps_cases (startDsps s) with
    ⟨-, ended⟩ | ⟨-, -, ended⟩ | ⟨-, layers, t, q11, ended⟩ | ⟨-, layers, t, q11, ended⟩ <;> rw [ended]
  · have header := start.step (readNalHeader_moves _) (start.geom.congr (readNalHeader_geometry _))
    exact absentGroupsClear_of_empty ((header.result .wrongUnitType).recValid false).vui
  · exact absentGroupsClear_of_empty (ptl.result .ok).vui
  · have record := late layers
    rw [q11] at record
    exact absentGroupsClear_of_empty record.vui
  · have record := late layers
    rw [q11] at record
    exact seqQ12toQ14_absentGroupsClear record

/-- Settles O45: the HRD flag stands inside timing info, so with it 1 the routine ended before the bitstream
restrictions. -/
theorem hrdExit_holds : Obligations.HrdExit := by
  refine ⟨fun s t h hrd => ?_, fun _ => rfl, fun _ => vuiParameters_of_hrdExit, fun _ => vuiParameters_of_no_hrdExit⟩
  obtain rfl := exec_dsps_next h
  have noRestriction := (decodeSps_absentGroupsClear s).hrd hrd
  exact ⟨noRestriction, (decodeSps_record s).1.noBsr noRestriction⟩

/-- Settles O46: every group is absent or read from a clear `VUI.*`; the invariant gives the first and last flag. -/
theorem absentGroupsAreZero : Obligations.AbsentGroupsAreZero := by
  intro s t h
  obtain rfl := exec_dsps_next h
  have record := (decodeSps_record s).1
  have clear := decodeSps_absentGroupsClear s
  exact ⟨record.noVui, clear.aspectRatio, clear.overscan, clear.videoSignal, clear.colour, clear.chromaLocation,
    clear.displayWindow, clear.timing, clear.poc, record.noBsr⟩

end Sys2Proof.Machine

namespace Sys2Proof.Machine

/-! ### GEOM in every state -/

theorem natCast_toNat_sub (x y : Word) : ((x - y).toNat : Int) = ((x.toNat : Int) - y.toNat) % 2 ^ 64 := by
  rw [BitVec.toNat_sub]
  omega

/-- One axis of the display size, with whatever wraps reduced once at the end (R196, R197). -/
theorem natCast_toNat_displaySize (size near far sub : Word) :
    ((size - (near + far) * sub).toNat : Int) =
      ((size.toNat : Int) - (near.toNat + far.toNat) * sub.toNat) % 2 ^ 64 := by
  have cropped : (((near + far) * sub).toNat : Int) = (near.toNat + far.toNat) * sub.toNat % 2 ^ 64 := by
    rw [BitVec.toNat_mul, BitVec.toNat_add, Nat.mod_mul_mod]
    norm_cast
  rw [natCast_toNat_sub, cropped, Int.sub_emod_emod]

/-- Settles O56, one axis at a time. -/
theorem geomIsModular : Obligations.GeomIsModular := by
  intro s
  obtain ⟨width, height⟩ := toNat_subsampling s.sps.chromaFormatIdc
  refine ⟨?_, ?_⟩
  · rw [← width]
    exact natCast_toNat_displaySize _ _ _ _
  · rw [← height]
    exact natCast_toNat_displaySize _ _ _ _

end Sys2Proof.Machine

namespace Sys2Proof.Machine

/-! ### What a step does to a set latch -/

/-- A step that completes is idle, or it is one host action (R239). -/
theorem step_next {s t : State} (h : step s = .next t) :
    (s.inputs = [] ∧ t = s) ∨
      ∃ a rest, s.inputs = a :: rest ∧ runAction a { s with inputs := rest } = .next t := by
  unfold step takeAction at h
  split at h
  · cases h
    exact .inl ⟨‹_›, rfl⟩
  · exact .inr ⟨_, _, ‹_›, h⟩

/-- Only the words of INIT and DSPS re-create the cursor; under every other one a set latch keeps its code
(R203, R212). -/
theorem runCommand_latched {w : CmdWord} {s t : State} (h : runCommand w s = .next t) (he : s.err ≠ .ok) :
    t.err = s.err ∨ w = encode .init ∨ w = encode .dsps := by
  obtain ⟨i, decoded, run⟩ := runCommand_next h
  obtain ⟨-, rfl⟩ := (decode_ok_iff_encode w i).1 decoded
  by_cases hinit : i = .init
  · exact .inr (.inl (by rw [hinit]))
  by_cases hdsps : i = .dsps
  · exact .inr (.inr (by rw [hdsps]))
  exact .inl (exec_latched hinit hdsps he run).2

/-- Settles O29, by cases on the host's action: a command by its word, and a host read changes nothing. -/
theorem latchClearedOnlyByRecreation : Obligations.LatchClearedOnlyByRecreation := by
  intro s t h he
  obtain ⟨-, rfl⟩ | ⟨a, rest, hin, run⟩ := step_next h
  · exact .inl rfl
  cases a with
  | command w =>
    rcases runCommand_latched run he with kept | rfl | rfl
    · exact .inl kept
    · exact .inr ⟨rest, .inl hin⟩
    · exact .inr ⟨rest, .inr (.inl hin)⟩
  | load bytes => exact .inr ⟨rest, .inr (.inr (.inl ⟨bytes, hin⟩))⟩
  | read r => exact .inl (by rw [runRead_next run])
  | reset => exact .inr ⟨rest, .inr (.inr (.inr hin))⟩

end Sys2Proof.Machine

namespace Sys2Proof.Machine

/-! ### The parameters, the idle block and reset -/

@[simp] theorem startDsps_params (s : State) : (startDsps s).params = s.params := rfl
@[simp] theorem finishDsps_params (s : State) : (finishDsps s).params = s.params := rfl

/-- A DSPS reads the parameters and never writes them (R233). -/
@[simp] theorem decodeSps_params (s : State) : (decodeSps s).params = s.params := by
  rw [decodeSps, finishDsps_params, (walkSps_moves _).params, startDsps_params]

/-- Settles O32, by what a step can do: a cursor change, a DSPS, a LOAD, or a reset, which keeps the wiring. -/
theorem parametersNeverChange : Obligations.ParametersNeverChange := by
  intro s t h
  obtain ⟨rest, cursor | ⟨-, rfl⟩ | ⟨bytes, -, rfl⟩ | ⟨-, rfl⟩⟩ := step_cases h
  · rw [cursor.frame]
  · exact decodeSps_params _
  · rfl
  · rfl

/-- Settles O7: there is no action to take. -/
theorem idleBlockDoesNothing : Obligations.IdleBlockDoesNothing := by
  intro s h
  unfold step takeAction
  rw [h]

/-- With a reset as the host's next action a step is that reset (R230, R239). -/
theorem step_reset {s : State} {rest : List HostAction} (h : s.inputs = .reset :: rest) :
    step s = .next (hostReset { s with inputs := rest }) := by
  unfold step takeAction
  rw [h]
  rfl

/-- Settles O9: `hostReset` keeps the model's own fields only. -/
theorem resetActionResets : Obligations.ResetActionResets := fun _ _ => step_reset

end Sys2Proof.Machine

namespace Sys2Proof.Machine

/-! ### A buffer with no bit to read -/

/-- The header's read is the first of a DSPS, and two bytes are not there (R127, R93). -/
theorem readNalHeader_err_of_short {s : State} (h : s.len < 2) : (readNalHeader (startDsps s)).err = .truncated := by
  have read : readField (.u 16) (setSeq .q1 (startDsps s)) = { startDsps s with err := .truncated, val := 0 } :=
    readBits_truncated rfl (by simp [streamEnd]; omega)
  rw [readNalHeader_eq, read]

/-- An error of the header's read stays in the latch to the end of the walk, whatever the unit type (R203). -/
theorem walkSps_err_of_header {s : State} (h : (readNalHeader s).err ≠ .ok) :
    (walkState (walkSps s)).err = (readNalHeader s).err := by
  cases unit : isSpsUnit (readNalHeader s) with
  | true =>
    have header : (afterQ1 s).err = (readNalHeader s).err := setRecValid_err _ _
    obtain ⟨kept, -⟩ := (walkFromQ2_moves (afterQ1 s)).latched (by rwa [header])
    rw [walkSps, seqQ1_of_sps s unit, andThen, kept, header]
  | false =>
    rw [walkSps, seqQ1_of_other s unit, andThen, walkState, setRecValid_err, setResult_err]

/-- A DSPS over less than a header ends with `Truncated` in the latch, whatever the unit type (R127, R211). -/
theorem decodeSps_err_of_short {s : State} (h : s.len < 2) : (decodeSps s).err = .truncated := by
  have header := readNalHeader_err_of_short h
  rw [decodeSps, finishDsps_err, walkSps_err_of_header (by rw [header]; nofun), header]

/-- A fixed-width read finds no bit in an empty buffer (R92, R93). -/
theorem readBits_of_empty {n : Nat} {s : State} (he : s.err = .ok) (hlen : s.len = 0) (hn : 1 ≤ n) :
    readBits n s = { s with err := .truncated, val := 0 } :=
  readBits_truncated he (by rw [streamEnd, hlen]; omega)

/-- Settles O59: every read and every DSPS meets an empty buffer, with `VAL` = 0 already. -/
theorem commandsAfterReset : Obligations.CommandsAfterReset := by
  rintro p m x r rfl
  refine ⟨?rdb, ?rdf, ?rdue, statResult _, statResult _, initResult _, _, exec_dsps _, ?dspsErr, ?dspsResult⟩
  case rdb => exact fun n h1 h64 => (exec_rdb h1 h64 _).trans (congrArg _ (readBits_of_empty rfl rfl h1))
  case rdf => exact congrArg Host.Outcome.next (readBits_of_empty rfl rfl le_rfl)
  case rdue => exact rdueRunsOutOfBits _ rfl (Nat.zero_le 32) fun p _ inside => absurd inside (Nat.not_lt_zero p)
  case dspsErr => exact decodeSps_err_of_short Nat.two_pos
  case dspsResult =>
    intro other
    obtain ⟨t, run, result, valid, -⟩ := truncatedHeader { State.reset with params := p, buf := m, temps := x } Nat.two_pos other
    obtain rfl := exec_dsps_next run
    exact ⟨result, valid⟩

end Sys2Proof.Machine
